-- ==== Sys2Proof/Word.lean ====
section
/-! DEFINITION. The fixed widths of the block: an instruction word is 32 bits, a host command byte and its
parameter byte are 8 bits each, an address is 24 bits (00_scope.md R7, 20_memory.md R47). -/

namespace Sys2Proof

/-- One packed display-list instruction word (R60). -/
abbrev Word := BitVec 32

/-- One byte of a host command frame or of the little-endian image of a word (R45, R47). -/
abbrev Byte := BitVec 8

/-- One byte address of the device's 24-bit address space (R40). -/
abbrev Address := BitVec 24

end Sys2Proof
end

