-- ==== Sys2Proof/Config.lean ====
section
/-! DEFINITION. What an implementation fixes: the generation tier and the parameters of 00_scope.md R7.
The one OPEN parameter is an opaque constant: nothing proves a value of it. -/

namespace Sys2Proof

/-- The generation tier of GMUX: 2, 3 or 4 (10_state.md R20). -/
inductive Tier where
  | t2
  | t3
  | t4
  deriving DecidableEq, Repr, Inhabited

/-- The tier as the number the spec compares and reports (10_state.md R20, R32). -/
def Tier.toNat : Tier → Nat
  | .t2 => 2
  | .t3 => 3
  | .t4 => 4

/-- The four bitmap transforms that have a tier-2 variant of their own (42_dl_bitmap.md R169). -/
inductive XformLetter where
  | a
  | b
  | d
  | e
  deriving DecidableEq, Repr

/-- The domain 17 or 24 of `GEN2_XFORM_WIDTH(X)` (00_scope.md R7). -/
inductive XformWidth where
  | w17
  | w24
  deriving DecidableEq, Repr, Inhabited

/-- The width in bits. -/
def XformWidth.bits : XformWidth → Nat
  | .w17 => 17
  | .w24 => 24

/-- The domain 22 or 24 of `BITMAP_SOURCE_ADDR_WIDTH` (00_scope.md R7). -/
inductive SourceWidth where
  | w22
  | w24
  deriving DecidableEq, Repr

/-- The width in bits. -/
def SourceWidth.bits : SourceWidth → Nat
  | .w22 => 22
  | .w24 => 24

/-- The implementation parameters of 00_scope.md R7 that are not fixed by a type. No step changes them
(DESIGN CHOICE, log entry 7: they stand in State so that a statement about every state is one about every
parameter). -/
structure Params where
  /-- `GEN2_XFORM_WIDTH(A)`, OPEN. -/
  xformWidthA : XformWidth
  /-- `GEN2_XFORM_WIDTH(B)`, OPEN. -/
  xformWidthB : XformWidth
  /-- `GEN2_XFORM_WIDTH(D)`, OPEN. -/
  xformWidthD : XformWidth
  /-- `GEN2_XFORM_WIDTH(E)`, OPEN. -/
  xformWidthE : XformWidth
  /-- `BITMAP_SOURCE_ADDR_WIDTH`. -/
  bitmapSourceWidth : SourceWidth
  /-- `STRICT_RANGE`. -/
  strictRange : Bool
  /-- `GK_TABLE_ENABLED`. -/
  gkTableEnabled : Bool
  /-- `RAM_G_SIZE` in bytes. -/
  ramGSize : Nat
  /-- `RAM_DL_SIZE` in bytes. -/
  ramDlSize : Nat
  /-- `RAM_REG_SIZE` in bytes. -/
  ramRegSize : Nat
  /-- `RAM_CMD_SIZE` in bytes. -/
  ramCmdSize : Nat
  /-- `RAM_REG2_SIZE` in bytes. -/
  ramReg2Size : Nat
  deriving DecidableEq, Repr

/-- The FREE VALUE of `GEN2_XFORM_WIDTH(X)`: the spec leaves it OPEN in 17, 24 (92_eei_decisions.md D10,
42_dl_bitmap.md R169; log entry 8). -/
opaque Config.gen2XformWidth : XformLetter → XformWidth

/-- The FREE VALUE of TIER after a reset event with an illegal tier, which leaves TIER unspecified (10_state.md R25,
70_reset_and_hazards.md R330; log entry 6): one value for each such event. -/
opaque Config.unspecifiedTier : Nat → Tier

/-- The parameters at the values 00_scope.md R7 takes; the OPEN ones stay free (log entries 8, 9). -/
def Params.specValues : Params where
  xformWidthA := Config.gen2XformWidth .a
  xformWidthB := Config.gen2XformWidth .b
  xformWidthD := Config.gen2XformWidth .d
  xformWidthE := Config.gen2XformWidth .e
  bitmapSourceWidth := .w22
  strictRange := false
  gkTableEnabled := true
  ramGSize := 0x100000
  ramDlSize := 0x2000
  ramRegSize := 0x1000
  ramCmdSize := 0x1000
  ramReg2Size := 0x800

end Sys2Proof
end

