-- ==== Sys2Proof/Syntax.lean ====
section
/-! DEFINITION. The instructions as syntax: one constructor of Instr per row of spec/opcode_table.json, the
names of the OPSEL rows and of the host commands, and the shape of a table row. -/

namespace Sys2Proof

/-- The variant of a mnemonic that has two encodings: tier 2 only, or tier 3 and above (42_dl_bitmap.md R169). -/
inductive Variant where
  | g2
  | g3
  deriving DecidableEq, Repr

/-- The two word formats: 8-bit opcode, or 2-bit discriminator (30_encoding.md R61, R62). -/
inductive WordFormat where
  | o8
  | v2
  deriving DecidableEq, Repr

/-- Whether a table entry comes from the source or from general knowledge (30_encoding.md R68, R78). -/
inductive EntrySource where
  | doc
  | gk
  deriving DecidableEq, Repr

/-- The tiers an item is valid at; no upper bound is `none` (10_state.md R31, R32). -/
structure TierRange where
  tmin : Nat
  tmax : Option Nat
  deriving DecidableEq, Repr

/-- A field descriptor: name, width N, offset K, signed view (30_encoding.md R64). -/
structure FieldDesc where
  name : String
  width : Nat
  offset : Nat
  signed : Bool
  deriving DecidableEq, Repr

/-- One entry of the OPSEL table (10_state.md R31, 30_encoding.md R68). -/
structure OpselRow where
  mnemonic : String
  variant : Option Variant
  format : WordFormat
  opcode : Nat
  fields : List FieldDesc
  tiers : TierRange
  src : EntrySource
  deriving DecidableEq, Repr

/-- One entry of the host command table (44_host_commands.md R232). -/
structure HostRow where
  name : String
  code : Byte
  tiers : TierRange
  deriving DecidableEq, Repr

/-- The 54 rows of OPSEL, by name and variant (30_encoding.md R68). -/
inductive DlOp where
  | display
  | bitmapSource
  | clearColorRgb
  | tag
  | colorRgb
  | bitmapHandle
  | cell
  | bitmapLayout
  | bitmapSize
  | alphaFunc
  | stencilFunc
  | blendFunc
  | stencilOp
  | pointSize
  | lineWidth
  | clearColorA
  | colorA
  | clearStencil
  | clearTag
  | stencilMask
  | tagMask
  | bitmapTransformAG2
  | bitmapTransformAG3
  | bitmapTransformBG2
  | bitmapTransformBG3
  | bitmapTransformC
  | bitmapTransformDG2
  | bitmapTransformDG3
  | bitmapTransformEG2
  | bitmapTransformEG3
  | bitmapTransformF
  | scissorXy
  | scissorSize
  | call
  | jump
  | beginPrim
  | colorMask
  | endPrim
  | saveContext
  | restoreContext
  | ret
  | macroReg
  | clear
  | vertexFormat
  | bitmapLayoutH
  | bitmapSizeH
  | paletteSource
  | vertexTranslateX
  | vertexTranslateY
  | nop
  | bitmapExtFormat
  | bitmapSwizzle
  | vertex2f
  | vertex2ii
  deriving DecidableEq, Repr

/-- The names of the ten host commands, and CORERST, the second name of RST_PULSE
(44_host_commands.md R232, R240). -/
inductive HostCmd where
  | active
  | standby
  | sleep
  | clkext
  | clkint
  | pwrdown
  | clksel
  | rstPulse
  | corerst
  | pindrive
  | pinPdState
  deriving DecidableEq, Repr

/-- A request whose item is named and whose operands are integers of the item's own number: one constructor
per row of spec/opcode_table.json. Operands are unbounded integers (00_scope.md R9). -/
inductive Instr where
  /-- DISPLAY, R201 (43_dl_flow.md). -/
  | display
  /-- BITMAP_SOURCE, R162 (42_dl_bitmap.md). -/
  | bitmapSource (addr : Int)
  /-- CLEAR_COLOR_RGB, R123 (41_dl_graphics_state.md). -/
  | clearColorRgb (red green blue : Int)
  /-- TAG, R127 (41_dl_graphics_state.md). -/
  | tag (value : Int)
  /-- COLOR_RGB, R121 (41_dl_graphics_state.md). -/
  | colorRgb (red green blue : Int)
  /-- BITMAP_HANDLE, R163 (42_dl_bitmap.md). -/
  | bitmapHandle (handle : Int)
  /-- CELL, R164 (42_dl_bitmap.md). -/
  | cell (cellIndex : Int)
  /-- BITMAP_LAYOUT, R161 (42_dl_bitmap.md). -/
  | bitmapLayout (fmt linestride height : Int)
  /-- BITMAP_SIZE, R165 (42_dl_bitmap.md). -/
  | bitmapSize (filter wrapx wrapy width height : Int)
  /-- ALPHA_FUNC, R131 (41_dl_graphics_state.md). -/
  | alphaFunc (func ref : Int)
  /-- STENCIL_FUNC, R132 (41_dl_graphics_state.md). -/
  | stencilFunc (func ref mask : Int)
  /-- BLEND_FUNC, R135 (41_dl_graphics_state.md). -/
  | blendFunc (src dst : Int)
  /-- STENCIL_OP, R133 (41_dl_graphics_state.md). -/
  | stencilOp (sfail spass : Int)
  /-- POINT_SIZE, R129 (41_dl_graphics_state.md). -/
  | pointSize (size : Int)
  /-- LINE_WIDTH, R130 (41_dl_graphics_state.md). -/
  | lineWidth (width : Int)
  /-- CLEAR_COLOR_A, R124 (41_dl_graphics_state.md). -/
  | clearColorA (alpha : Int)
  /-- COLOR_A, R122 (41_dl_graphics_state.md). -/
  | colorA (alpha : Int)
  /-- CLEAR_STENCIL, R125 (41_dl_graphics_state.md). -/
  | clearStencil (value : Int)
  /-- CLEAR_TAG, R126 (41_dl_graphics_state.md). -/
  | clearTag (value : Int)
  /-- STENCIL_MASK, R134 (41_dl_graphics_state.md). -/
  | stencilMask (mask : Int)
  /-- TAG_MASK, R128 (41_dl_graphics_state.md). -/
  | tagMask (mask : Int)
  /-- BITMAP_TRANSFORM_A_G2, R170 (42_dl_bitmap.md). -/
  | bitmapTransformAG2 (a : Int)
  /-- BITMAP_TRANSFORM_A_G3, R171 (42_dl_bitmap.md). -/
  | bitmapTransformAG3 (p v : Int)
  /-- BITMAP_TRANSFORM_B_G2, R172 (42_dl_bitmap.md). -/
  | bitmapTransformBG2 (b : Int)
  /-- BITMAP_TRANSFORM_B_G3, R173 (42_dl_bitmap.md). -/
  | bitmapTransformBG3 (p v : Int)
  /-- BITMAP_TRANSFORM_C, R174 (42_dl_bitmap.md). -/
  | bitmapTransformC (c : Int)
  /-- BITMAP_TRANSFORM_D_G2, R175 (42_dl_bitmap.md). -/
  | bitmapTransformDG2 (d : Int)
  /-- BITMAP_TRANSFORM_D_G3, R176 (42_dl_bitmap.md). -/
  | bitmapTransformDG3 (p v : Int)
  /-- BITMAP_TRANSFORM_E_G2, R177 (42_dl_bitmap.md). -/
  | bitmapTransformEG2 (e : Int)
  /-- BITMAP_TRANSFORM_E_G3, R178 (42_dl_bitmap.md). -/
  | bitmapTransformEG3 (p v : Int)
  /-- BITMAP_TRANSFORM_F, R179 (42_dl_bitmap.md). -/
  | bitmapTransformF (f : Int)
  /-- SCISSOR_XY, R137 (41_dl_graphics_state.md). -/
  | scissorXy (x y : Int)
  /-- SCISSOR_SIZE, R138 (41_dl_graphics_state.md). -/
  | scissorSize (width height : Int)
  /-- CALL, R205 (43_dl_flow.md). -/
  | call (dest : Int)
  /-- JUMP, R206 (43_dl_flow.md). -/
  | jump (dest : Int)
  /-- BEGIN, R101 (40_dl_primitives.md). -/
  | beginPrim (prim : Int)
  /-- COLOR_MASK, R136 (41_dl_graphics_state.md). -/
  | colorMask (r g b a : Int)
  /-- END, R102 (40_dl_primitives.md). -/
  | endPrim
  /-- SAVE_CONTEXT, R203 (43_dl_flow.md). -/
  | saveContext
  /-- RESTORE_CONTEXT, R204 (43_dl_flow.md). -/
  | restoreContext
  /-- RETURN, R207 (43_dl_flow.md). -/
  | ret
  /-- MACRO, R208 (43_dl_flow.md). -/
  | macroReg (which : Int)
  /-- CLEAR, R202 (43_dl_flow.md). -/
  | clear (cBit sBit tBit : Int)
  /-- VERTEX_FORMAT, R105 (40_dl_primitives.md). -/
  | vertexFormat (frac : Int)
  /-- BITMAP_LAYOUT_H, R166 (42_dl_bitmap.md). -/
  | bitmapLayoutH (linestride height : Int)
  /-- BITMAP_SIZE_H, R167 (42_dl_bitmap.md). -/
  | bitmapSizeH (width height : Int)
  /-- PALETTE_SOURCE, R168 (42_dl_bitmap.md). -/
  | paletteSource (addr : Int)
  /-- VERTEX_TRANSLATE_X, R106 (40_dl_primitives.md). -/
  | vertexTranslateX (x : Int)
  /-- VERTEX_TRANSLATE_Y, R107 (40_dl_primitives.md). -/
  | vertexTranslateY (y : Int)
  /-- NOP, R209 (43_dl_flow.md). -/
  | nop
  /-- BITMAP_EXT_FORMAT, R180 (42_dl_bitmap.md). -/
  | bitmapExtFormat (fmt : Int)
  /-- BITMAP_SWIZZLE, R181 (42_dl_bitmap.md). -/
  | bitmapSwizzle (r g b a : Int)
  /-- VERTEX2F, R103 (40_dl_primitives.md). -/
  | vertex2f (x y : Int)
  /-- VERTEX2II, R104 (40_dl_primitives.md). -/
  | vertex2ii (x y handle cellIndex : Int)
  /-- HOST_ACTIVE, R233 (44_host_commands.md). -/
  | hostActive (param : Int)
  /-- HOST_STANDBY, R234 (44_host_commands.md). -/
  | hostStandby (param : Int)
  /-- HOST_SLEEP, R235 (44_host_commands.md). -/
  | hostSleep (param : Int)
  /-- HOST_CLKEXT, R236 (44_host_commands.md). -/
  | hostClkext (param : Int)
  /-- HOST_CLKINT, R237 (44_host_commands.md). -/
  | hostClkint (param : Int)
  /-- HOST_PWRDOWN, R238 (44_host_commands.md). -/
  | hostPwrdown (param : Int)
  /-- HOST_CLKSEL, R239 (44_host_commands.md). -/
  | hostClksel (param : Int)
  /-- HOST_RST_PULSE, R240 (44_host_commands.md). -/
  | hostRstPulse (param : Int)
  /-- HOST_CORERST, R240 (44_host_commands.md). -/
  | hostCorerst (param : Int)
  /-- HOST_PINDRIVE, R241 (44_host_commands.md). -/
  | hostPindrive (param : Int)
  /-- HOST_PIN_PD_STATE, R242 (44_host_commands.md). -/
  | hostPinPdState (param : Int)
  deriving DecidableEq, Repr

/-- The table entry an instruction names: an OPSEL row or a host command. -/
inductive ItemRef where
  | dl (op : DlOp)
  | host (c : HostCmd)
  deriving DecidableEq, Repr

/-- The entry of each instruction. -/
def Instr.item : Instr → ItemRef
  | .display => .dl .display
  | .bitmapSource _ => .dl .bitmapSource
  | .clearColorRgb _ _ _ => .dl .clearColorRgb
  | .tag _ => .dl .tag
  | .colorRgb _ _ _ => .dl .colorRgb
  | .bitmapHandle _ => .dl .bitmapHandle
  | .cell _ => .dl .cell
  | .bitmapLayout _ _ _ => .dl .bitmapLayout
  | .bitmapSize _ _ _ _ _ => .dl .bitmapSize
  | .alphaFunc _ _ => .dl .alphaFunc
  | .stencilFunc _ _ _ => .dl .stencilFunc
  | .blendFunc _ _ => .dl .blendFunc
  | .stencilOp _ _ => .dl .stencilOp
  | .pointSize _ => .dl .pointSize
  | .lineWidth _ => .dl .lineWidth
  | .clearColorA _ => .dl .clearColorA
  | .colorA _ => .dl .colorA
  | .clearStencil _ => .dl .clearStencil
  | .clearTag _ => .dl .clearTag
  | .stencilMask _ => .dl .stencilMask
  | .tagMask _ => .dl .tagMask
  | .bitmapTransformAG2 _ => .dl .bitmapTransformAG2
  | .bitmapTransformAG3 _ _ => .dl .bitmapTransformAG3
  | .bitmapTransformBG2 _ => .dl .bitmapTransformBG2
  | .bitmapTransformBG3 _ _ => .dl .bitmapTransformBG3
  | .bitmapTransformC _ => .dl .bitmapTransformC
  | .bitmapTransformDG2 _ => .dl .bitmapTransformDG2
  | .bitmapTransformDG3 _ _ => .dl .bitmapTransformDG3
  | .bitmapTransformEG2 _ => .dl .bitmapTransformEG2
  | .bitmapTransformEG3 _ _ => .dl .bitmapTransformEG3
  | .bitmapTransformF _ => .dl .bitmapTransformF
  | .scissorXy _ _ => .dl .scissorXy
  | .scissorSize _ _ => .dl .scissorSize
  | .call _ => .dl .call
  | .jump _ => .dl .jump
  | .beginPrim _ => .dl .beginPrim
  | .colorMask _ _ _ _ => .dl .colorMask
  | .endPrim => .dl .endPrim
  | .saveContext => .dl .saveContext
  | .restoreContext => .dl .restoreContext
  | .ret => .dl .ret
  | .macroReg _ => .dl .macroReg
  | .clear _ _ _ => .dl .clear
  | .vertexFormat _ => .dl .vertexFormat
  | .bitmapLayoutH _ _ => .dl .bitmapLayoutH
  | .bitmapSizeH _ _ => .dl .bitmapSizeH
  | .paletteSource _ => .dl .paletteSource
  | .vertexTranslateX _ => .dl .vertexTranslateX
  | .vertexTranslateY _ => .dl .vertexTranslateY
  | .nop => .dl .nop
  | .bitmapExtFormat _ => .dl .bitmapExtFormat
  | .bitmapSwizzle _ _ _ _ => .dl .bitmapSwizzle
  | .vertex2f _ _ => .dl .vertex2f
  | .vertex2ii _ _ _ _ => .dl .vertex2ii
  | .hostActive _ => .host .active
  | .hostStandby _ => .host .standby
  | .hostSleep _ => .host .sleep
  | .hostClkext _ => .host .clkext
  | .hostClkint _ => .host .clkint
  | .hostPwrdown _ => .host .pwrdown
  | .hostClksel _ => .host .clksel
  | .hostRstPulse _ => .host .rstPulse
  | .hostCorerst _ => .host .corerst
  | .hostPindrive _ => .host .pindrive
  | .hostPinPdState _ => .host .pinPdState

/-- The operands of each instruction, in field order (30_encoding.md R64). -/
def Instr.args : Instr → List Int
  | .display => []
  | .bitmapSource addr => [addr]
  | .clearColorRgb red green blue => [red, green, blue]
  | .tag value => [value]
  | .colorRgb red green blue => [red, green, blue]
  | .bitmapHandle handle => [handle]
  | .cell cellIndex => [cellIndex]
  | .bitmapLayout fmt linestride height => [fmt, linestride, height]
  | .bitmapSize filter wrapx wrapy width height => [filter, wrapx, wrapy, width, height]
  | .alphaFunc func ref => [func, ref]
  | .stencilFunc func ref mask => [func, ref, mask]
  | .blendFunc src dst => [src, dst]
  | .stencilOp sfail spass => [sfail, spass]
  | .pointSize size => [size]
  | .lineWidth width => [width]
  | .clearColorA alpha => [alpha]
  | .colorA alpha => [alpha]
  | .clearStencil value => [value]
  | .clearTag value => [value]
  | .stencilMask mask => [mask]
  | .tagMask mask => [mask]
  | .bitmapTransformAG2 a => [a]
  | .bitmapTransformAG3 p v => [p, v]
  | .bitmapTransformBG2 b => [b]
  | .bitmapTransformBG3 p v => [p, v]
  | .bitmapTransformC c => [c]
  | .bitmapTransformDG2 d => [d]
  | .bitmapTransformDG3 p v => [p, v]
  | .bitmapTransformEG2 e => [e]
  | .bitmapTransformEG3 p v => [p, v]
  | .bitmapTransformF f => [f]
  | .scissorXy x y => [x, y]
  | .scissorSize width height => [width, height]
  | .call dest => [dest]
  | .jump dest => [dest]
  | .beginPrim prim => [prim]
  | .colorMask r g b a => [r, g, b, a]
  | .endPrim => []
  | .saveContext => []
  | .restoreContext => []
  | .ret => []
  | .macroReg which => [which]
  | .clear cBit sBit tBit => [cBit, sBit, tBit]
  | .vertexFormat frac => [frac]
  | .bitmapLayoutH linestride height => [linestride, height]
  | .bitmapSizeH width height => [width, height]
  | .paletteSource addr => [addr]
  | .vertexTranslateX x => [x]
  | .vertexTranslateY y => [y]
  | .nop => []
  | .bitmapExtFormat fmt => [fmt]
  | .bitmapSwizzle r g b a => [r, g, b, a]
  | .vertex2f x y => [x, y]
  | .vertex2ii x y handle cellIndex => [x, y, handle, cellIndex]
  | .hostActive param => [param]
  | .hostStandby param => [param]
  | .hostSleep param => [param]
  | .hostClkext param => [param]
  | .hostClkint param => [param]
  | .hostPwrdown param => [param]
  | .hostClksel param => [param]
  | .hostRstPulse param => [param]
  | .hostCorerst param => [param]
  | .hostPindrive param => [param]
  | .hostPinPdState param => [param]

/-- Every OPSEL row, in the order of 30_encoding.md R68. -/
def DlOp.all : List DlOp :=
  [.display, .bitmapSource, .clearColorRgb, .tag, .colorRgb, .bitmapHandle,
   .cell, .bitmapLayout, .bitmapSize, .alphaFunc, .stencilFunc, .blendFunc,
   .stencilOp, .pointSize, .lineWidth, .clearColorA, .colorA, .clearStencil,
   .clearTag, .stencilMask, .tagMask, .bitmapTransformAG2, .bitmapTransformAG3, .bitmapTransformBG2,
   .bitmapTransformBG3, .bitmapTransformC, .bitmapTransformDG2, .bitmapTransformDG3, .bitmapTransformEG2, .bitmapTransformEG3,
   .bitmapTransformF, .scissorXy, .scissorSize, .call, .jump, .beginPrim,
   .colorMask, .endPrim, .saveContext, .restoreContext, .ret, .macroReg,
   .clear, .vertexFormat, .bitmapLayoutH, .bitmapSizeH, .paletteSource, .vertexTranslateX,
   .vertexTranslateY, .nop, .bitmapExtFormat, .bitmapSwizzle, .vertex2f, .vertex2ii]

/-- Every host command name, in the order of 44_host_commands.md R232. -/
def HostCmd.all : List HostCmd :=
  [.active, .standby, .sleep, .clkext, .clkint, .pwrdown,
   .clksel, .rstPulse, .corerst, .pindrive, .pinPdState]

end Sys2Proof
end

