-- ==== Sys2Proof/Machine/Operands.lean ====
section
/-! DEFINITION. The operand primitives of 00_scope.md R9 to R11 and the range and tier tests that OPSEL and
GMUX apply: the one place where an integer becomes bits of a word. -/

namespace Sys2Proof

/-- `field(v, N)`: the residue of an unbounded integer mod 2^N (00_scope.md R9). -/
def field (v : Int) (n : Nat) : Nat :=
  (v % ((2 ^ n : Nat) : Int)).toNat

/-- `sext_N(u)`: the two's-complement reading of an N-bit value (00_scope.md R11). -/
def sext (n u : Nat) : Int :=
  if u < 2 ^ (n - 1) then (u : Int) else (u : Int) - ((2 ^ n : Nat) : Int)

/-- One field of a word, masked and shifted to its place (00_scope.md R10). -/
def placed (v : Int) (f : FieldDesc) : Word :=
  BitVec.ofNat 32 (field v f.width) <<< f.offset

/-- `pack(base, fields)`: OR of the base and every placed field, in operand order (00_scope.md R10). -/
def pack : Word → List (Int × FieldDesc) → Word
  | base, [] => base
  | base, (v, f) :: rest => pack (base ||| placed v f) rest

/-- The bits a field occupies (30_encoding.md R64). -/
def fieldMask (f : FieldDesc) : Word :=
  BitVec.ofNat 32 (2 ^ f.width - 1) <<< f.offset

/-- `w[K+N-1 : K]`, the unsigned value of a field of a word (30_encoding.md R71). -/
def fieldBits (w : Word) (f : FieldDesc) : Nat :=
  w.toNat / 2 ^ f.offset % 2 ^ f.width

/-- The signed view of a field's value: `sext_N` for a field marked signed, else the value
(30_encoding.md R77). -/
def signedView (f : FieldDesc) (u : Nat) : Int :=
  if f.signed then sext f.width u else u

/-- The strict range test: -2^(N-1) <= v < 2^N for a signed field, 0 <= v < 2^N for any other
(30_encoding.md R77, 60_exceptions.md R302). -/
def inRange (v : Int) (f : FieldDesc) : Bool :=
  decide ((if f.signed then -((2 ^ (f.width - 1) : Nat) : Int) else 0) ≤ v ∧ v < ((2 ^ f.width : Nat) : Int))

/-- The first operand in field order that is outside its field's range (60_exceptions.md R304, item 8). -/
def firstOutOfRange : List Int → List FieldDesc → Option (FieldDesc × Int)
  | v :: vs, f :: fs => if inRange v f then firstOutOfRange vs fs else some (f, v)
  | _, _ => none

/-- The visibility test of GMUX: `tmin <= TIER <= tmax`, no upper bound where tmax is absent
(10_state.md R32). -/
def tierVisible (r : TierRange) (t : Tier) : Bool :=
  decide (r.tmin ≤ t.toNat) && (match r.tmax with
    | none => true
    | some m => decide (t.toNat ≤ m))

/-- `norm` of a configuration value: 2, 3, 4 for anything from 4 up, illegal below 2 (10_state.md R21). -/
def normTier (t : Int) : Option Tier :=
  if t = 2 then some .t2
  else if t = 3 then some .t3
  else if 4 ≤ t then some .t4
  else none

end Sys2Proof
end

