-- ==== Sys2Proof/Machine/HostTable.lean ====
section
/-! DEFINITION. The host command table of HCF: names, command bytes and tier ranges (44_host_commands.md R232),
one definition per command. -/

namespace Sys2Proof

/-- R233: ACTIVE, byte 0x00. -/
def hostActive : HostRow := ⟨"ACTIVE", 0x00#8, ⟨2, none⟩⟩

/-- R234: STANDBY, byte 0x41. -/
def hostStandby : HostRow := ⟨"STANDBY", 0x41#8, ⟨2, none⟩⟩

/-- R235: SLEEP, byte 0x42. -/
def hostSleep : HostRow := ⟨"SLEEP", 0x42#8, ⟨2, none⟩⟩

/-- R236: CLKEXT, byte 0x44. -/
def hostClkext : HostRow := ⟨"CLKEXT", 0x44#8, ⟨2, none⟩⟩

/-- R237: CLKINT, byte 0x48. -/
def hostClkint : HostRow := ⟨"CLKINT", 0x48#8, ⟨2, some 3⟩⟩

/-- R238: PWRDOWN, byte 0x50. -/
def hostPwrdown : HostRow := ⟨"PWRDOWN", 0x50#8, ⟨2, none⟩⟩

/-- R239: CLKSEL, byte 0x61. -/
def hostClksel : HostRow := ⟨"CLKSEL", 0x61#8, ⟨2, none⟩⟩

/-- R240: RST_PULSE, byte 0x68. -/
def hostRstPulse : HostRow := ⟨"RST_PULSE", 0x68#8, ⟨2, none⟩⟩

/-- R240: CORERST, byte 0x68. -/
def hostCorerst : HostRow := ⟨"CORERST", 0x68#8, ⟨2, none⟩⟩

/-- R241: PINDRIVE, byte 0x70. -/
def hostPindrive : HostRow := ⟨"PINDRIVE", 0x70#8, ⟨2, none⟩⟩

/-- R242: PIN_PD_STATE, byte 0x71. -/
def hostPinPdState : HostRow := ⟨"PIN_PD_STATE", 0x71#8, ⟨2, none⟩⟩

/-- The host command table (44_host_commands.md R232). -/
def hostRow : HostCmd → HostRow
  | .active => hostActive
  | .standby => hostStandby
  | .sleep => hostSleep
  | .clkext => hostClkext
  | .clkint => hostClkint
  | .pwrdown => hostPwrdown
  | .clksel => hostClksel
  | .rstPulse => hostRstPulse
  | .corerst => hostCorerst
  | .pindrive => hostPindrive
  | .pinPdState => hostPinPdState

/-- The instruction of a host command with its parameter. -/
def instrOfHost (c : HostCmd) (param : Int) : Instr :=
  match c with
  | .active => .hostActive param
  | .standby => .hostStandby param
  | .sleep => .hostSleep param
  | .clkext => .hostClkext param
  | .clkint => .hostClkint param
  | .pwrdown => .hostPwrdown param
  | .clksel => .hostClksel param
  | .rstPulse => .hostRstPulse param
  | .corerst => .hostCorerst param
  | .pindrive => .hostPindrive param
  | .pinPdState => .hostPinPdState param

/-- The command a name selects, none where it is not one of the table (44_host_commands.md R231:
UnknownHostCommand). -/
def hostCmdNamed (name : String) : Option HostCmd :=
  HostCmd.all.find? fun c => (hostRow c).name == name

end Sys2Proof
end

