-- ==== Sys2Proof/Machine/Opsel.lean ====
section
/-! DEFINITION. OPSEL: the constant table from a display-list instruction and its variant to format, opcode,
field descriptors, tier range and source (30_encoding.md R68), one definition per row. The parameters give the
width of the five fields that have no fixed one. -/

namespace Sys2Proof

/-- R201: DISPLAY, opcode 0x00, no field. -/
def rowDisplay : OpselRow where
  mnemonic := "DISPLAY"
  variant := none
  format := .o8
  opcode := 0x00
  fields := []
  tiers := ⟨2, none⟩
  src := .gk

/-- R162: BITMAP_SOURCE, opcode 0x01, addr B@0. -/
def rowBitmapSource (p : Params) : OpselRow where
  mnemonic := "BITMAP_SOURCE"
  variant := none
  format := .o8
  opcode := 0x01
  fields := [⟨"addr", p.bitmapSourceWidth.bits, 0, false⟩]
  tiers := ⟨2, none⟩
  src := .gk

/-- R123: CLEAR_COLOR_RGB, opcode 0x02, red 8@16, green 8@8, blue 8@0. -/
def rowClearColorRgb : OpselRow where
  mnemonic := "CLEAR_COLOR_RGB"
  variant := none
  format := .o8
  opcode := 0x02
  fields := [⟨"red", 8, 16, false⟩,
      ⟨"green", 8, 8, false⟩,
      ⟨"blue", 8, 0, false⟩]
  tiers := ⟨2, none⟩
  src := .gk

/-- R127: TAG, opcode 0x03, s 8@0. -/
def rowTag : OpselRow where
  mnemonic := "TAG"
  variant := none
  format := .o8
  opcode := 0x03
  fields := [⟨"s", 8, 0, false⟩]
  tiers := ⟨2, none⟩
  src := .gk

/-- R121: COLOR_RGB, opcode 0x04, red 8@16, green 8@8, blue 8@0. -/
def rowColorRgb : OpselRow where
  mnemonic := "COLOR_RGB"
  variant := none
  format := .o8
  opcode := 0x04
  fields := [⟨"red", 8, 16, false⟩,
      ⟨"green", 8, 8, false⟩,
      ⟨"blue", 8, 0, false⟩]
  tiers := ⟨2, none⟩
  src := .doc

/-- R163: BITMAP_HANDLE, opcode 0x05, handle 5@0. -/
def rowBitmapHandle : OpselRow where
  mnemonic := "BITMAP_HANDLE"
  variant := none
  format := .o8
  opcode := 0x05
  fields := [⟨"handle", 5, 0, false⟩]
  tiers := ⟨2, none⟩
  src := .gk

/-- R164: CELL, opcode 0x06, cell 7@0. -/
def rowCell : OpselRow where
  mnemonic := "CELL"
  variant := none
  format := .o8
  opcode := 0x06
  fields := [⟨"cell", 7, 0, false⟩]
  tiers := ⟨2, none⟩
  src := .gk

/-- R161: BITMAP_LAYOUT, opcode 0x07, format 5@19, linestride 10@9, height 9@0. -/
def rowBitmapLayout : OpselRow where
  mnemonic := "BITMAP_LAYOUT"
  variant := none
  format := .o8
  opcode := 0x07
  fields := [⟨"format", 5, 19, false⟩,
      ⟨"linestride", 10, 9, false⟩,
      ⟨"height", 9, 0, false⟩]
  tiers := ⟨2, none⟩
  src := .doc

/-- R165: BITMAP_SIZE, opcode 0x08, filter 1@20, wrapx 1@19, wrapy 1@18, width 9@9, height 9@0. -/
def rowBitmapSize : OpselRow where
  mnemonic := "BITMAP_SIZE"
  variant := none
  format := .o8
  opcode := 0x08
  fields := [⟨"filter", 1, 20, false⟩,
      ⟨"wrapx", 1, 19, false⟩,
      ⟨"wrapy", 1, 18, false⟩,
      ⟨"width", 9, 9, false⟩,
      ⟨"height", 9, 0, false⟩]
  tiers := ⟨2, none⟩
  src := .gk

/-- R131: ALPHA_FUNC, opcode 0x09, func 3@8, ref 8@0. -/
def rowAlphaFunc : OpselRow where
  mnemonic := "ALPHA_FUNC"
  variant := none
  format := .o8
  opcode := 0x09
  fields := [⟨"func", 3, 8, false⟩,
      ⟨"ref", 8, 0, false⟩]
  tiers := ⟨2, none⟩
  src := .gk

/-- R132: STENCIL_FUNC, opcode 0x0A, func 4@16, ref 8@8, mask 8@0. -/
def rowStencilFunc : OpselRow where
  mnemonic := "STENCIL_FUNC"
  variant := none
  format := .o8
  opcode := 0x0A
  fields := [⟨"func", 4, 16, false⟩,
      ⟨"ref", 8, 8, false⟩,
      ⟨"mask", 8, 0, false⟩]
  tiers := ⟨2, none⟩
  src := .gk

/-- R135: BLEND_FUNC, opcode 0x0B, src 3@3, dst 3@0. -/
def rowBlendFunc : OpselRow where
  mnemonic := "BLEND_FUNC"
  variant := none
  format := .o8
  opcode := 0x0B
  fields := [⟨"src", 3, 3, false⟩,
      ⟨"dst", 3, 0, false⟩]
  tiers := ⟨2, none⟩
  src := .gk

/-- R133: STENCIL_OP, opcode 0x0C, sfail 3@3, spass 3@0. -/
def rowStencilOp : OpselRow where
  mnemonic := "STENCIL_OP"
  variant := none
  format := .o8
  opcode := 0x0C
  fields := [⟨"sfail", 3, 3, false⟩,
      ⟨"spass", 3, 0, false⟩]
  tiers := ⟨2, none⟩
  src := .gk

/-- R129: POINT_SIZE, opcode 0x0D, size 13@0. -/
def rowPointSize : OpselRow where
  mnemonic := "POINT_SIZE"
  variant := none
  format := .o8
  opcode := 0x0D
  fields := [⟨"size", 13, 0, false⟩]
  tiers := ⟨2, none⟩
  src := .doc

/-- R130: LINE_WIDTH, opcode 0x0E, width 12@0. -/
def rowLineWidth : OpselRow where
  mnemonic := "LINE_WIDTH"
  variant := none
  format := .o8
  opcode := 0x0E
  fields := [⟨"width", 12, 0, false⟩]
  tiers := ⟨2, none⟩
  src := .gk

/-- R124: CLEAR_COLOR_A, opcode 0x0F, alpha 8@0. -/
def rowClearColorA : OpselRow where
  mnemonic := "CLEAR_COLOR_A"
  variant := none
  format := .o8
  opcode := 0x0F
  fields := [⟨"alpha", 8, 0, false⟩]
  tiers := ⟨2, none⟩
  src := .gk

/-- R122: COLOR_A, opcode 0x10, alpha 8@0. -/
def rowColorA : OpselRow where
  mnemonic := "COLOR_A"
  variant := none
  format := .o8
  opcode := 0x10
  fields := [⟨"alpha", 8, 0, false⟩]
  tiers := ⟨2, none⟩
  src := .gk

/-- R125: CLEAR_STENCIL, opcode 0x11, s 8@0. -/
def rowClearStencil : OpselRow where
  mnemonic := "CLEAR_STENCIL"
  variant := none
  format := .o8
  opcode := 0x11
  fields := [⟨"s", 8, 0, false⟩]
  tiers := ⟨2, none⟩
  src := .gk

/-- R126: CLEAR_TAG, opcode 0x12, s 8@0. -/
def rowClearTag : OpselRow where
  mnemonic := "CLEAR_TAG"
  variant := none
  format := .o8
  opcode := 0x12
  fields := [⟨"s", 8, 0, false⟩]
  tiers := ⟨2, none⟩
  src := .gk

/-- R134: STENCIL_MASK, opcode 0x13, mask 8@0. -/
def rowStencilMask : OpselRow where
  mnemonic := "STENCIL_MASK"
  variant := none
  format := .o8
  opcode := 0x13
  fields := [⟨"mask", 8, 0, false⟩]
  tiers := ⟨2, none⟩
  src := .gk

/-- R128: TAG_MASK, opcode 0x14, mask 1@0. -/
def rowTagMask : OpselRow where
  mnemonic := "TAG_MASK"
  variant := none
  format := .o8
  opcode := 0x14
  fields := [⟨"mask", 1, 0, false⟩]
  tiers := ⟨2, none⟩
  src := .gk

/-- R170: BITMAP_TRANSFORM_A G2, opcode 0x15, a W@0. -/
def rowBitmapTransformAG2 (p : Params) : OpselRow where
  mnemonic := "BITMAP_TRANSFORM_A"
  variant := some .g2
  format := .o8
  opcode := 0x15
  fields := [⟨"a", p.xformWidthA.bits, 0, true⟩]
  tiers := ⟨2, some 2⟩
  src := .gk

/-- R171: BITMAP_TRANSFORM_A G3, opcode 0x15, p 1@17, v 17@0. -/
def rowBitmapTransformAG3 : OpselRow where
  mnemonic := "BITMAP_TRANSFORM_A"
  variant := some .g3
  format := .o8
  opcode := 0x15
  fields := [⟨"p", 1, 17, false⟩,
      ⟨"v", 17, 0, true⟩]
  tiers := ⟨3, none⟩
  src := .gk

/-- R172: BITMAP_TRANSFORM_B G2, opcode 0x16, b W@0. -/
def rowBitmapTransformBG2 (p : Params) : OpselRow where
  mnemonic := "BITMAP_TRANSFORM_B"
  variant := some .g2
  format := .o8
  opcode := 0x16
  fields := [⟨"b", p.xformWidthB.bits, 0, true⟩]
  tiers := ⟨2, some 2⟩
  src := .gk

/-- R173: BITMAP_TRANSFORM_B G3, opcode 0x16, p 1@17, v 17@0. -/
def rowBitmapTransformBG3 : OpselRow where
  mnemonic := "BITMAP_TRANSFORM_B"
  variant := some .g3
  format := .o8
  opcode := 0x16
  fields := [⟨"p", 1, 17, false⟩,
      ⟨"v", 17, 0, true⟩]
  tiers := ⟨3, none⟩
  src := .gk

/-- R174: BITMAP_TRANSFORM_C, opcode 0x17, c 24@0. -/
def rowBitmapTransformC : OpselRow where
  mnemonic := "BITMAP_TRANSFORM_C"
  variant := none
  format := .o8
  opcode := 0x17
  fields := [⟨"c", 24, 0, true⟩]
  tiers := ⟨2, none⟩
  src := .gk

/-- R175: BITMAP_TRANSFORM_D G2, opcode 0x18, d W@0. -/
def rowBitmapTransformDG2 (p : Params) : OpselRow where
  mnemonic := "BITMAP_TRANSFORM_D"
  variant := some .g2
  format := .o8
  opcode := 0x18
  fields := [⟨"d", p.xformWidthD.bits, 0, true⟩]
  tiers := ⟨2, some 2⟩
  src := .gk

/-- R176: BITMAP_TRANSFORM_D G3, opcode 0x18, p 1@17, v 17@0. -/
def rowBitmapTransformDG3 : OpselRow where
  mnemonic := "BITMAP_TRANSFORM_D"
  variant := some .g3
  format := .o8
  opcode := 0x18
  fields := [⟨"p", 1, 17, false⟩,
      ⟨"v", 17, 0, true⟩]
  tiers := ⟨3, none⟩
  src := .gk

/-- R177: BITMAP_TRANSFORM_E G2, opcode 0x19, e W@0. -/
def rowBitmapTransformEG2 (p : Params) : OpselRow where
  mnemonic := "BITMAP_TRANSFORM_E"
  variant := some .g2
  format := .o8
  opcode := 0x19
  fields := [⟨"e", p.xformWidthE.bits, 0, true⟩]
  tiers := ⟨2, some 2⟩
  src := .gk

/-- R178: BITMAP_TRANSFORM_E G3, opcode 0x19, p 1@17, v 17@0. -/
def rowBitmapTransformEG3 : OpselRow where
  mnemonic := "BITMAP_TRANSFORM_E"
  variant := some .g3
  format := .o8
  opcode := 0x19
  fields := [⟨"p", 1, 17, false⟩,
      ⟨"v", 17, 0, true⟩]
  tiers := ⟨3, none⟩
  src := .gk

/-- R179: BITMAP_TRANSFORM_F, opcode 0x1A, f 24@0. -/
def rowBitmapTransformF : OpselRow where
  mnemonic := "BITMAP_TRANSFORM_F"
  variant := none
  format := .o8
  opcode := 0x1A
  fields := [⟨"f", 24, 0, true⟩]
  tiers := ⟨2, none⟩
  src := .gk

/-- R137: SCISSOR_XY, opcode 0x1B, x 11@11, y 11@0. -/
def rowScissorXy : OpselRow where
  mnemonic := "SCISSOR_XY"
  variant := none
  format := .o8
  opcode := 0x1B
  fields := [⟨"x", 11, 11, false⟩,
      ⟨"y", 11, 0, false⟩]
  tiers := ⟨2, none⟩
  src := .gk

/-- R138: SCISSOR_SIZE, opcode 0x1C, width 12@12, height 12@0. -/
def rowScissorSize : OpselRow where
  mnemonic := "SCISSOR_SIZE"
  variant := none
  format := .o8
  opcode := 0x1C
  fields := [⟨"width", 12, 12, false⟩,
      ⟨"height", 12, 0, false⟩]
  tiers := ⟨2, none⟩
  src := .gk

/-- R205: CALL, opcode 0x1D, dest 16@0. -/
def rowCall : OpselRow where
  mnemonic := "CALL"
  variant := none
  format := .o8
  opcode := 0x1D
  fields := [⟨"dest", 16, 0, false⟩]
  tiers := ⟨2, none⟩
  src := .gk

/-- R206: JUMP, opcode 0x1E, dest 16@0. -/
def rowJump : OpselRow where
  mnemonic := "JUMP"
  variant := none
  format := .o8
  opcode := 0x1E
  fields := [⟨"dest", 16, 0, false⟩]
  tiers := ⟨2, none⟩
  src := .gk

/-- R101: BEGIN, opcode 0x1F, prim 4@0. -/
def rowBeginPrim : OpselRow where
  mnemonic := "BEGIN"
  variant := none
  format := .o8
  opcode := 0x1F
  fields := [⟨"prim", 4, 0, false⟩]
  tiers := ⟨2, none⟩
  src := .doc

/-- R136: COLOR_MASK, opcode 0x20, r 1@3, g 1@2, b 1@1, a 1@0. -/
def rowColorMask : OpselRow where
  mnemonic := "COLOR_MASK"
  variant := none
  format := .o8
  opcode := 0x20
  fields := [⟨"r", 1, 3, false⟩,
      ⟨"g", 1, 2, false⟩,
      ⟨"b", 1, 1, false⟩,
      ⟨"a", 1, 0, false⟩]
  tiers := ⟨2, none⟩
  src := .gk

/-- R102: END, opcode 0x21, no field. -/
def rowEndPrim : OpselRow where
  mnemonic := "END"
  variant := none
  format := .o8
  opcode := 0x21
  fields := []
  tiers := ⟨2, none⟩
  src := .doc

/-- R203: SAVE_CONTEXT, opcode 0x22, no field. -/
def rowSaveContext : OpselRow where
  mnemonic := "SAVE_CONTEXT"
  variant := none
  format := .o8
  opcode := 0x22
  fields := []
  tiers := ⟨2, none⟩
  src := .gk

/-- R204: RESTORE_CONTEXT, opcode 0x23, no field. -/
def rowRestoreContext : OpselRow where
  mnemonic := "RESTORE_CONTEXT"
  variant := none
  format := .o8
  opcode := 0x23
  fields := []
  tiers := ⟨2, none⟩
  src := .gk

/-- R207: RETURN, opcode 0x24, no field. -/
def rowRet : OpselRow where
  mnemonic := "RETURN"
  variant := none
  format := .o8
  opcode := 0x24
  fields := []
  tiers := ⟨2, none⟩
  src := .gk

/-- R208: MACRO, opcode 0x25, m 1@0. -/
def rowMacroReg : OpselRow where
  mnemonic := "MACRO"
  variant := none
  format := .o8
  opcode := 0x25
  fields := [⟨"m", 1, 0, false⟩]
  tiers := ⟨2, none⟩
  src := .gk

/-- R202: CLEAR, opcode 0x26, c 1@2, s 1@1, t 1@0. -/
def rowClear : OpselRow where
  mnemonic := "CLEAR"
  variant := none
  format := .o8
  opcode := 0x26
  fields := [⟨"c", 1, 2, false⟩,
      ⟨"s", 1, 1, false⟩,
      ⟨"t", 1, 0, false⟩]
  tiers := ⟨2, none⟩
  src := .gk

/-- R105: VERTEX_FORMAT, opcode 0x27, frac 3@0. -/
def rowVertexFormat : OpselRow where
  mnemonic := "VERTEX_FORMAT"
  variant := none
  format := .o8
  opcode := 0x27
  fields := [⟨"frac", 3, 0, false⟩]
  tiers := ⟨2, none⟩
  src := .gk

/-- R166: BITMAP_LAYOUT_H, opcode 0x28, linestride 2@2, height 2@0. -/
def rowBitmapLayoutH : OpselRow where
  mnemonic := "BITMAP_LAYOUT_H"
  variant := none
  format := .o8
  opcode := 0x28
  fields := [⟨"linestride", 2, 2, false⟩,
      ⟨"height", 2, 0, false⟩]
  tiers := ⟨2, none⟩
  src := .gk

/-- R167: BITMAP_SIZE_H, opcode 0x29, width 2@2, height 2@0. -/
def rowBitmapSizeH : OpselRow where
  mnemonic := "BITMAP_SIZE_H"
  variant := none
  format := .o8
  opcode := 0x29
  fields := [⟨"width", 2, 2, false⟩,
      ⟨"height", 2, 0, false⟩]
  tiers := ⟨2, none⟩
  src := .gk

/-- R168: PALETTE_SOURCE, opcode 0x2A, addr 22@0. -/
def rowPaletteSource : OpselRow where
  mnemonic := "PALETTE_SOURCE"
  variant := none
  format := .o8
  opcode := 0x2A
  fields := [⟨"addr", 22, 0, false⟩]
  tiers := ⟨2, none⟩
  src := .gk

/-- R106: VERTEX_TRANSLATE_X, opcode 0x2B, x 17@0. -/
def rowVertexTranslateX : OpselRow where
  mnemonic := "VERTEX_TRANSLATE_X"
  variant := none
  format := .o8
  opcode := 0x2B
  fields := [⟨"x", 17, 0, true⟩]
  tiers := ⟨2, none⟩
  src := .gk

/-- R107: VERTEX_TRANSLATE_Y, opcode 0x2C, y 17@0. -/
def rowVertexTranslateY : OpselRow where
  mnemonic := "VERTEX_TRANSLATE_Y"
  variant := none
  format := .o8
  opcode := 0x2C
  fields := [⟨"y", 17, 0, true⟩]
  tiers := ⟨2, none⟩
  src := .gk

/-- R209: NOP, opcode 0x2D, no field. -/
def rowNop : OpselRow where
  mnemonic := "NOP"
  variant := none
  format := .o8
  opcode := 0x2D
  fields := []
  tiers := ⟨2, none⟩
  src := .gk

/-- R180: BITMAP_EXT_FORMAT, opcode 0x2E, format 16@0. -/
def rowBitmapExtFormat : OpselRow where
  mnemonic := "BITMAP_EXT_FORMAT"
  variant := none
  format := .o8
  opcode := 0x2E
  fields := [⟨"format", 16, 0, false⟩]
  tiers := ⟨3, none⟩
  src := .gk

/-- R181: BITMAP_SWIZZLE, opcode 0x2F, r 3@9, g 3@6, b 3@3, a 3@0. -/
def rowBitmapSwizzle : OpselRow where
  mnemonic := "BITMAP_SWIZZLE"
  variant := none
  format := .o8
  opcode := 0x2F
  fields := [⟨"r", 3, 9, false⟩,
      ⟨"g", 3, 6, false⟩,
      ⟨"b", 3, 3, false⟩,
      ⟨"a", 3, 0, false⟩]
  tiers := ⟨3, none⟩
  src := .gk

/-- R103: VERTEX2F, discriminator 0b01, x 15@15, y 15@0. -/
def rowVertex2f : OpselRow where
  mnemonic := "VERTEX2F"
  variant := none
  format := .v2
  opcode := 0x01
  fields := [⟨"x", 15, 15, true⟩,
      ⟨"y", 15, 0, true⟩]
  tiers := ⟨2, none⟩
  src := .doc

/-- R104: VERTEX2II, discriminator 0b10, x 9@21, y 9@12, handle 5@7, cell 7@0. -/
def rowVertex2ii : OpselRow where
  mnemonic := "VERTEX2II"
  variant := none
  format := .v2
  opcode := 0x02
  fields := [⟨"x", 9, 21, false⟩,
      ⟨"y", 9, 12, false⟩,
      ⟨"handle", 5, 7, false⟩,
      ⟨"cell", 7, 0, false⟩]
  tiers := ⟨2, none⟩
  src := .gk

/-- OPSEL: the row of an instruction and variant (30_encoding.md R68). -/
def opsel (p : Params) : DlOp → OpselRow
  | .display => rowDisplay
  | .bitmapSource => rowBitmapSource p
  | .clearColorRgb => rowClearColorRgb
  | .tag => rowTag
  | .colorRgb => rowColorRgb
  | .bitmapHandle => rowBitmapHandle
  | .cell => rowCell
  | .bitmapLayout => rowBitmapLayout
  | .bitmapSize => rowBitmapSize
  | .alphaFunc => rowAlphaFunc
  | .stencilFunc => rowStencilFunc
  | .blendFunc => rowBlendFunc
  | .stencilOp => rowStencilOp
  | .pointSize => rowPointSize
  | .lineWidth => rowLineWidth
  | .clearColorA => rowClearColorA
  | .colorA => rowColorA
  | .clearStencil => rowClearStencil
  | .clearTag => rowClearTag
  | .stencilMask => rowStencilMask
  | .tagMask => rowTagMask
  | .bitmapTransformAG2 => rowBitmapTransformAG2 p
  | .bitmapTransformAG3 => rowBitmapTransformAG3
  | .bitmapTransformBG2 => rowBitmapTransformBG2 p
  | .bitmapTransformBG3 => rowBitmapTransformBG3
  | .bitmapTransformC => rowBitmapTransformC
  | .bitmapTransformDG2 => rowBitmapTransformDG2 p
  | .bitmapTransformDG3 => rowBitmapTransformDG3
  | .bitmapTransformEG2 => rowBitmapTransformEG2 p
  | .bitmapTransformEG3 => rowBitmapTransformEG3
  | .bitmapTransformF => rowBitmapTransformF
  | .scissorXy => rowScissorXy
  | .scissorSize => rowScissorSize
  | .call => rowCall
  | .jump => rowJump
  | .beginPrim => rowBeginPrim
  | .colorMask => rowColorMask
  | .endPrim => rowEndPrim
  | .saveContext => rowSaveContext
  | .restoreContext => rowRestoreContext
  | .ret => rowRet
  | .macroReg => rowMacroReg
  | .clear => rowClear
  | .vertexFormat => rowVertexFormat
  | .bitmapLayoutH => rowBitmapLayoutH
  | .bitmapSizeH => rowBitmapSizeH
  | .paletteSource => rowPaletteSource
  | .vertexTranslateX => rowVertexTranslateX
  | .vertexTranslateY => rowVertexTranslateY
  | .nop => rowNop
  | .bitmapExtFormat => rowBitmapExtFormat
  | .bitmapSwizzle => rowBitmapSwizzle
  | .vertex2f => rowVertex2f
  | .vertex2ii => rowVertex2ii

/-- The instruction of a row with the operands given in field order (missing ones 0: every caller gives as
many as the row has fields). -/
def instrOfOp (op : DlOp) (args : List Int) : Instr :=
  match op with
  | .display => .display
  | .bitmapSource => .bitmapSource (args.getD 0 0)
  | .clearColorRgb => .clearColorRgb (args.getD 0 0) (args.getD 1 0) (args.getD 2 0)
  | .tag => .tag (args.getD 0 0)
  | .colorRgb => .colorRgb (args.getD 0 0) (args.getD 1 0) (args.getD 2 0)
  | .bitmapHandle => .bitmapHandle (args.getD 0 0)
  | .cell => .cell (args.getD 0 0)
  | .bitmapLayout => .bitmapLayout (args.getD 0 0) (args.getD 1 0) (args.getD 2 0)
  | .bitmapSize => .bitmapSize (args.getD 0 0) (args.getD 1 0) (args.getD 2 0) (args.getD 3 0) (args.getD 4 0)
  | .alphaFunc => .alphaFunc (args.getD 0 0) (args.getD 1 0)
  | .stencilFunc => .stencilFunc (args.getD 0 0) (args.getD 1 0) (args.getD 2 0)
  | .blendFunc => .blendFunc (args.getD 0 0) (args.getD 1 0)
  | .stencilOp => .stencilOp (args.getD 0 0) (args.getD 1 0)
  | .pointSize => .pointSize (args.getD 0 0)
  | .lineWidth => .lineWidth (args.getD 0 0)
  | .clearColorA => .clearColorA (args.getD 0 0)
  | .colorA => .colorA (args.getD 0 0)
  | .clearStencil => .clearStencil (args.getD 0 0)
  | .clearTag => .clearTag (args.getD 0 0)
  | .stencilMask => .stencilMask (args.getD 0 0)
  | .tagMask => .tagMask (args.getD 0 0)
  | .bitmapTransformAG2 => .bitmapTransformAG2 (args.getD 0 0)
  | .bitmapTransformAG3 => .bitmapTransformAG3 (args.getD 0 0) (args.getD 1 0)
  | .bitmapTransformBG2 => .bitmapTransformBG2 (args.getD 0 0)
  | .bitmapTransformBG3 => .bitmapTransformBG3 (args.getD 0 0) (args.getD 1 0)
  | .bitmapTransformC => .bitmapTransformC (args.getD 0 0)
  | .bitmapTransformDG2 => .bitmapTransformDG2 (args.getD 0 0)
  | .bitmapTransformDG3 => .bitmapTransformDG3 (args.getD 0 0) (args.getD 1 0)
  | .bitmapTransformEG2 => .bitmapTransformEG2 (args.getD 0 0)
  | .bitmapTransformEG3 => .bitmapTransformEG3 (args.getD 0 0) (args.getD 1 0)
  | .bitmapTransformF => .bitmapTransformF (args.getD 0 0)
  | .scissorXy => .scissorXy (args.getD 0 0) (args.getD 1 0)
  | .scissorSize => .scissorSize (args.getD 0 0) (args.getD 1 0)
  | .call => .call (args.getD 0 0)
  | .jump => .jump (args.getD 0 0)
  | .beginPrim => .beginPrim (args.getD 0 0)
  | .colorMask => .colorMask (args.getD 0 0) (args.getD 1 0) (args.getD 2 0) (args.getD 3 0)
  | .endPrim => .endPrim
  | .saveContext => .saveContext
  | .restoreContext => .restoreContext
  | .ret => .ret
  | .macroReg => .macroReg (args.getD 0 0)
  | .clear => .clear (args.getD 0 0) (args.getD 1 0) (args.getD 2 0)
  | .vertexFormat => .vertexFormat (args.getD 0 0)
  | .bitmapLayoutH => .bitmapLayoutH (args.getD 0 0) (args.getD 1 0)
  | .bitmapSizeH => .bitmapSizeH (args.getD 0 0) (args.getD 1 0)
  | .paletteSource => .paletteSource (args.getD 0 0)
  | .vertexTranslateX => .vertexTranslateX (args.getD 0 0)
  | .vertexTranslateY => .vertexTranslateY (args.getD 0 0)
  | .nop => .nop
  | .bitmapExtFormat => .bitmapExtFormat (args.getD 0 0)
  | .bitmapSwizzle => .bitmapSwizzle (args.getD 0 0) (args.getD 1 0) (args.getD 2 0) (args.getD 3 0)
  | .vertex2f => .vertex2f (args.getD 0 0) (args.getD 1 0)
  | .vertex2ii => .vertex2ii (args.getD 0 0) (args.getD 1 0) (args.getD 2 0) (args.getD 3 0)

/-- The row a name and variant select, none where no row matches (30_encoding.md R65: UnknownInstruction). -/
def dlOpNamed (p : Params) (mnemonic : String) (variant : Option Variant) : Option DlOp :=
  DlOp.all.find? fun op => (opsel p op).mnemonic == mnemonic && (opsel p op).variant == variant

/-- The opcode pre-shifted to its place: bits 31:24 for O8, bits 31:30 for V2 (30_encoding.md R61, R62, R65).
The repository names this word `DL_<MNEMONIC>` (R75). -/
def matchWord (r : OpselRow) : Word :=
  match r.format with
  | .o8 => BitVec.ofNat 32 r.opcode <<< 24
  | .v2 => BitVec.ofNat 32 r.opcode <<< 30

/-- The width of the operand area: bits 23:0 for O8, bits 29:0 for V2 (30_encoding.md R61, R62). -/
def operandWidth : WordFormat → Nat
  | .o8 => 24
  | .v2 => 30

/-- The opcode or discriminator bits of a format (30_encoding.md R71). -/
def headerMask (r : OpselRow) : Word :=
  match r.format with
  | .o8 => 0xFF000000#32
  | .v2 => 0xC0000000#32

/-- The bits of a word that the row uses: header and fields (30_encoding.md R67, R71). -/
def usedBits (r : OpselRow) : Word :=
  r.fields.foldl (fun m f => m ||| fieldMask f) (headerMask r)

/-- The repository's name of a row's pre-shifted opcode (30_encoding.md R75). -/
def opcodeConstantName (r : OpselRow) : String :=
  "DL_" ++ r.mnemonic

end Sys2Proof
end

