-- ==== Sys2Proof/WellFormed.lean ====
section
/-! DEFINITION. Well-formed instructions: every operand is one a word or frame can carry without truncation,
0 <= value < 2^N (30_encoding.md R72). A request need not be well-formed: an operand outside its field is masked
(60_exceptions.md R307). The check is the domain of the round trip (log entry 29). -/

namespace Sys2Proof

/-- The value is at least 0. -/
def nonNegative (v : Int) : Bool :=
  decide (0 ≤ v)

/-- The value is below 2^N. -/
def belowWidth (v : Int) (n : Nat) : Bool :=
  decide (v < ((2 ^ n : Nat) : Int))

/-- A value an N-bit field carries exactly (30_encoding.md R72). -/
def fits (v : Int) (n : Nat) : Bool :=
  nonNegative v && belowWidth v n

/-- As many operands as fields, each fitting its field. -/
def argsFit : List Int → List FieldDesc → Bool
  | [], [] => true
  | v :: vs, f :: fs => fits v f.width && argsFit vs fs
  | _, _ => false

/-- Every operand of the instruction fits its field; a host parameter fits its byte (44_host_commands.md R231). -/
def Instr.wellFormed (p : Params) (i : Instr) : Bool :=
  match i.item with
  | .dl op => argsFit i.args (opsel p op).fields
  | .host _ => i.args.all fun v => fits v 8

end Sys2Proof
end

