-- ==== Sys2Proof/Decode.lean ====
section
/-! DEFINITION. The reference decoder of 30_encoding.md R71, total on any word and any bytes, and after it the
encoder: the word or frame of an instruction. The decoder is no port of the block (R71). A host frame has no
decoder in the spec; the one here inverts the table of 44_host_commands.md R232 (DESIGN CHOICE, log entry 12). -/

namespace Sys2Proof

/-- Why a word or frame is not the block's output at a tier. -/
inductive DecodeError where
  /-- Bits 31:30 are 11 (R70, R71). -/
  | reservedTop
  /-- An opcode with no row visible at the tier (R70, R71). -/
  | reservedOpcode
  /-- A bit outside header and fields is 1 (R70, R71). -/
  | nonzeroUnusedBits
  /-- A command byte of no host command visible at the tier (the model's own, log entry 12). -/
  | unknownHostByte
  /-- Fewer bytes than a word or a frame has (the model's own). -/
  | truncated
  deriving DecidableEq, Repr

/-- What a decoder answers: an instruction, or `NotEncoderOutput(reason)` (R71). -/
inductive Decoded where
  | instr (i : Instr)
  | notEncoderOutput (reason : DecodeError)
  deriving DecidableEq, Repr

/-- The decoded instruction, if there is one. -/
def Decoded.instr? : Decoded → Option Instr
  | .instr i => some i
  | .notEncoderOutput _ => none

/-- One frame of the host framer: command byte first, then parameter byte (20_memory.md R45). -/
structure Frame where
  command : Byte
  param : Byte
  deriving DecidableEq, Repr

/-- The decoder's last lines, for the row found: unused bits must be 0, then every field is read (R71). -/
def decodeRow (p : Params) (op : DlOp) (w : Word) : Decoded :=
  if w &&& ~~~(usedBits (opsel p op)) ≠ 0#32 then .notEncoderOutput .nonzeroUnusedBits
  else .instr (instrOfOp op ((opsel p op).fields.map fun f => (fieldBits w f : Int)))

/-- The O8 row visible at the tier that has this opcode (R71; at most one, R69). -/
def o8RowAt (p : Params) (t : Tier) (opcode : Nat) : Option DlOp :=
  DlOp.all.find? fun op =>
    (opsel p op).format == .o8 && (opsel p op).opcode == opcode && tierVisible (opsel p op).tiers t

/-- The reference decoder `decode(TIER, w)` (30_encoding.md R71). -/
def decodeWord (p : Params) (t : Tier) (w : Word) : Decoded :=
  match w.toNat / 2 ^ 30 with
  | 0 =>
    match o8RowAt p t (w.toNat / 2 ^ 24) with
    | none => .notEncoderOutput .reservedOpcode
    | some op => decodeRow p op w
  | 1 => decodeRow p .vertex2f w
  | 2 => decodeRow p .vertex2ii w
  | _ => .notEncoderOutput .reservedTop

/-- The host command whose byte this is, visible at the tier. RST_PULSE and CORERST share a byte and give the
same frame (44_host_commands.md R240); the first name is read. -/
def hostRowAt (t : Tier) (command : Byte) : Option HostCmd :=
  HostCmd.all.find? fun c => (hostRow c).code == command && tierVisible (hostRow c).tiers t

/-- The inverse of the framer (log entry 12). -/
def decodeFrame (t : Tier) (f : Frame) : Decoded :=
  match hostRowAt t f.command with
  | none => .notEncoderOutput .unknownHostByte
  | some c => .instr (instrOfHost c f.param.toNat)

/-- The two output channels of the block, never mixed (44_host_commands.md R243). -/
inductive Channel where
  | displayList
  | host
  deriving DecidableEq, Repr

/-- The little-endian bytes of a word, lowest address first (20_memory.md R45). -/
def wordBytes (w : Word) : List Byte :=
  [w.extractLsb' 0 8, w.extractLsb' 8 8, w.extractLsb' 16 8, w.extractLsb' 24 8]

/-- The word four little-endian bytes hold, lowest address first (20_memory.md R45). -/
def wordOfBytes (b0 b1 b2 b3 : Byte) : Word :=
  b3 ++ b2 ++ b1 ++ b0

/-- Decode the front of a byte stream of one channel; answers what was decoded and the bytes left. -/
def decodeBytes (p : Params) (t : Tier) : Channel → List Byte → Decoded × List Byte
  | .displayList, b0 :: b1 :: b2 :: b3 :: rest => (decodeWord p t (wordOfBytes b0 b1 b2 b3), rest)
  | .host, c :: b :: rest => (decodeFrame t ⟨c, b⟩, rest)
  | _, bytes => (.notEncoderOutput .truncated, bytes)

/-- The signed view of a word's fields (30_encoding.md R77): the values `sext_N` gives for the fields marked
signed, the unsigned values for the others. -/
def signedArgs (p : Params) (op : DlOp) (w : Word) : List Int :=
  (opsel p op).fields.map fun f => signedView f (fieldBits w f)

/-- The tier at which a word of the opcode table is read when no tier is given with it: 3, the one tier at which
every row but the four G2 transforms is visible (DESIGN CHOICE, log entry 10). -/
def tableTier : Tier := .t3

/-- The instruction the decoder reads from an instruction numbered as spec/opcode_table.json numbers it: 32 bits
are a display-list word, laid out little-endian; 8 or 16 bits are a host frame, command byte first. The spec has no
fetch and gives no parameters with a table word: reading it under `Params.specValues`, whatever a state's own
parameters are, is the model's choice (DESIGN CHOICE, log entry 30), as the tier is (log entry 10). -/
def decodeTableWord (nbits w : Nat) : Option Instr :=
  if nbits = 32 then
    (decodeBytes Params.specValues tableTier .displayList (wordBytes (BitVec.ofNat 32 w))).1.instr?
  else if nbits = 8 ∨ nbits = 16 then
    (decodeBytes Params.specValues tableTier .host [BitVec.ofNat 8 w, BitVec.ofNat 8 (w / 2 ^ 8)]).1.instr?
  else none

/-- What the block emits for an instruction: a word, or a frame (10_state.md R22, R23). -/
inductive Packet where
  | word (w : Word)
  | frame (f : Frame)
  deriving DecidableEq, Repr

/-- The word of a row and its operands: `pack(base, fields)` (30_encoding.md R65). -/
def encodeWord (p : Params) (op : DlOp) (args : List Int) : Word :=
  pack (matchWord (opsel p op)) (args.zip (opsel p op).fields)

/-- The frame of a host command and its parameter: the byte, and the parameter mod 256
(44_host_commands.md R231). -/
def encodeFrame (c : HostCmd) (param : Int) : Frame :=
  ⟨(hostRow c).code, BitVec.ofNat 8 (field param 8)⟩

/-- The encoder: the word or frame of an instruction (30_encoding.md R65, 44_host_commands.md R231). -/
def encode (p : Params) (i : Instr) : Packet :=
  match i.item with
  | .dl op => .word (encodeWord p op i.args)
  | .host c => .frame (encodeFrame c (i.args.getD 0 0))

/-- Decode what the block emitted, on the channel it was emitted on. -/
def decodePacket (p : Params) (t : Tier) : Packet → Decoded
  | .word w => decodeWord p t w
  | .frame f => decodeFrame t f

/-- The bytes of a packet, lowest address first. -/
def packetBytes : Packet → List Byte
  | .word w => wordBytes w
  | .frame f => [f.command, f.param]

/-- The channel a packet goes out on (44_host_commands.md R243). -/
def packetChannel : Packet → Channel
  | .word _ => .displayList
  | .frame _ => .host

/-- The tiers at which an instruction is valid (10_state.md R32). -/
def instrTiers (p : Params) (i : Instr) : TierRange :=
  match i.item with
  | .dl op => (opsel p op).tiers
  | .host c => (hostRow c).tiers

end Sys2Proof
end

