-- ==== Sys2Proof/Machine/State.lean ====
section
/-! DEFINITION. The state of the block: TIER and CONFIGURED (10_state.md R20), and beside them the model's own
plain data: the parameters, the requests not yet served and the response last driven on each port. The types of
requests, responses, faults and refusals stand here too. -/

namespace Sys2Proof.Machine

/-- An operand of a request: an integer, or something that is not one (60_exceptions.md R303, NonInteger). -/
inductive Operand where
  | int (v : Int)
  | nonInteger (text : String)
  deriving DecidableEq, Repr

/-- One request to a port of the block (10_state.md R22 to R25). -/
inductive Request where
  /-- `enc_req(instr, args)`: a mnemonic, its variant where it has two, and the operands (R22). -/
  | enc (mnemonic : String) (variant : Option Variant) (args : List Operand)
  /-- `host_req(cmd, param)`: a command name and, if the caller gives one, a parameter (R23). -/
  | host (cmd : String) (param : Option Operand)
  /-- `map_req(name)` (R24). -/
  | map (name : String)
  /-- `region_req(addr)` (R24). -/
  | region (addr : Operand)
  /-- The reset event `rst` with its input `cfg_tier` (R25). -/
  | rst (cfgTier : Operand)
  /-- Any other attempt to write TIER (60_exceptions.md R303, TierChange; log entry 14). -/
  | writeTier (newTier : Operand)
  deriving DecidableEq, Repr

/-- The reasons of a refusal (60_exceptions.md R303, and 93_implementation_defined.md U3). -/
inductive RefusalReason where
  | unconfigured
  | unknownInstruction
  | unknownHostCommand
  | unknownName
  | notInSource
  | arity
  | addrRange
  | tierChange
  | nonInteger
  /-- A reset event with a tier below 2 on a block that is not configured (93_implementation_defined.md U3, which
  names no reason: log entry 13). -/
  | illegalTier
  deriving DecidableEq, Repr

/-- What a GenerationMismatch is about; its code says which (60_exceptions.md R301). -/
inductive MismatchKind where
  | instruction
  | hostCommand
  | registerOrWindow
  | constant
  deriving DecidableEq, Repr

/-- The item an error names: a mnemonic with its variant, a command or a name (60_exceptions.md R301). -/
structure Item where
  name : String
  variant : Option Variant
  deriving DecidableEq, Repr

/-- The two errors of the block with the information recorded (60_exceptions.md R301, R302). -/
inductive ErrorInfo where
  /-- `GenerationMismatch(code, item, TIER, tmin, tmax)`. -/
  | generationMismatch (kind : MismatchKind) (item : Item) (tier : Nat) (tmin : Nat) (tmax : Option Nat)
  /-- `OperandRange(item, field, value)`, code 5. -/
  | operandRange (item : String) (fieldName : String) (value : Int)
  deriving DecidableEq, Repr

/-- The response to a request (60_exceptions.md R300): the normal one, an error, or a refusal. -/
inductive Response (α : Type) where
  | ok (value : α)
  | err (e : ErrorInfo)
  | refused (r : RefusalReason)
  deriving DecidableEq, Repr

/-- The memory windows of 20_memory.md R41. -/
inductive Window where
  | ramG
  | romFont
  | romFontRoot
  | ramDl
  | ramReg
  | ramCmd
  | ramReg2
  | ramErrReport
  deriving DecidableEq, Repr

/-- The answer of the region classification (20_memory.md R42). -/
inductive Region where
  | window (w : Window)
  | unmapped
  deriving DecidableEq, Repr

/-- A value of the map port: an address, a constant or a region (10_state.md R24). -/
inductive MapValue where
  | address (a : Address)
  | constant (v : Nat)
  | region (r : Region)
  deriving DecidableEq, Repr

/-- The whole state of the model. -/
structure State where
  /-- `TIER` (10_state.md R20, R21). -/
  tier : Tier
  /-- `CONFIGURED` (10_state.md R20). -/
  configured : Bool
  /-- The implementation parameters (00_scope.md R7; log entry 7). -/
  params : Params
  /-- The requests not yet served, oldest first (log entry 1). -/
  requests : List Request
  /-- The response last driven on the encoder port (10_state.md R22; log entry 2). -/
  encOut : Option (Response Word)
  /-- The response last driven on the host framer port (10_state.md R23; log entry 2). -/
  hostOut : Option (Response Frame)
  /-- The response last driven on the map port (10_state.md R24; log entry 2). -/
  mapOut : Option (Response MapValue)
  /-- The response last driven on the configuration port (10_state.md R25; log entries 2, 13). -/
  cfgOut : Option (Response Unit)
  /-- The model's own: how many free values of TIER have been taken (log entry 6). -/
  freeIndex : Nat
  deriving DecidableEq, Repr

/-- A machine stop with a fault. There is none: the block has no trap (60_exceptions.md R306), an error is a
response after which the next request is served (R305), so no constructor exists. Nobody raises it; safe
(log entry 21). -/
inductive Fault where
  deriving DecidableEq, Repr

/-- An instruction without a meaning. -/
inductive Refusal where
  /-- Raised only by an arm of exec whose instruction has no meaning yet; safe. No arm raises it now. A refusal of
  the spec's (60_exceptions.md R303) is a response, not this (log entry 3). -/
  | notModelled (mnemonic : String)
  deriving DecidableEq, Repr

/-- The state at power-on, before any `rst` (70_reset_and_hazards.md R331, R332): not configured, TIER
unspecified (DESIGN CHOICE tier 2, log entry 5), nothing requested and nothing driven. -/
def State.reset : State where
  tier := .t2
  configured := false
  params := Params.specValues
  requests := []
  encOut := none
  hostOut := none
  mapOut := none
  cfgOut := none
  freeIndex := 0

end Sys2Proof.Machine
end

