-- ==== Sys2Proof/Machine/AddressMap.lean ====
section
/-! DEFINITION. CSR_MAP, first part: the memory windows and the region classification of 20_memory.md R41, R42,
and the register names of 45_register_address_map.md R264 to R268. The block holds addresses, no register values
(10_state.md R29, 45_register_address_map.md R269). -/

namespace Sys2Proof.Machine

/-- The windows in the order of 20_memory.md R41. -/
def windowOrder : List Window :=
  [.ramG, .romFont, .romFontRoot, .ramDl, .ramReg, .ramCmd, .ramReg2, .ramErrReport]

/-- The name of a window (20_memory.md R41). -/
def windowName : Window → String
  | .ramG => "RAM_G"
  | .romFont => "ROM_FONT"
  | .romFontRoot => "ROM_FONTROOT"
  | .ramDl => "RAM_DL"
  | .ramReg => "RAM_REG"
  | .ramCmd => "RAM_CMD"
  | .ramReg2 => "RAM_REG2"
  | .ramErrReport => "RAM_ERR_REPORT"

/-- The base address of a window (20_memory.md R41). -/
def windowBase : Window → Nat
  | .ramG => 0x000000
  | .romFont => 0x1E0000
  | .romFontRoot => 0x2FFFFC
  | .ramDl => 0x300000
  | .ramReg => 0x302000
  | .ramCmd => 0x308000
  | .ramReg2 => 0x309000
  | .ramErrReport => 0x309800

/-- The size of a window in bytes: a parameter for five of them (20_memory.md R41, 00_scope.md R7). -/
def windowSize (p : Params) : Window → Nat
  | .ramG => p.ramGSize
  | .romFont => 0x11FFFC
  | .romFontRoot => 4
  | .ramDl => p.ramDlSize
  | .ramReg => p.ramRegSize
  | .ramCmd => p.ramCmdSize
  | .ramReg2 => p.ramReg2Size
  | .ramErrReport => 0x80

/-- The tiers of a window name (20_memory.md R41). -/
def windowTiers : Window → TierRange
  | .ramErrReport => ⟨3, none⟩
  | _ => ⟨2, none⟩

/-- Whether a window's entry is the source's: RAM_G, RAM_DL, RAM_REG, RAM_CMD, RAM_REG2
(45_register_address_map.md R261). -/
def windowSource : Window → EntrySource
  | .romFont => .gk
  | .romFontRoot => .gk
  | .ramErrReport => .gk
  | _ => .doc

/-- The address lies in the window: base <= addr <= base + size - 1 (20_memory.md R41, R42). -/
def windowHolds (p : Params) (w : Window) (addr : Nat) : Bool :=
  decide (windowBase w ≤ addr ∧ addr < windowBase w + windowSize p w)

/-- `region(addr)`: the first window in table order that holds the address, at every tier (20_memory.md R42). -/
def regionOf (p : Params) (addr : Nat) : Region :=
  match windowOrder.find? fun w => windowHolds p w addr with
  | some w => .window w
  | none => .unmapped

/-- The access class of a register: metadata, enforced by nothing (45_register_address_map.md R263). -/
inductive AccessClass where
  | readOnly
  | writeOnly
  | readWrite
  | unclassified
  deriving DecidableEq, Repr

/-- One row of the register tables (45_register_address_map.md, section 2). -/
structure RegisterEntry where
  name : String
  address : Nat
  offset : Nat
  window : Window
  tmin : Nat
  access : AccessClass
  deriving DecidableEq, Repr

/-- R264, part 1 of 3: tier-2 registers in window 1. -/
def registersWindow1a : List RegisterEntry :=
  [⟨"REG_ID", 0x302000, 0x000, .ramReg, 2, .unclassified⟩,
   ⟨"REG_FRAMES", 0x302004, 0x004, .ramReg, 2, .readOnly⟩,
   ⟨"REG_CLOCK", 0x302008, 0x008, .ramReg, 2, .unclassified⟩,
   ⟨"REG_FREQUENCY", 0x30200C, 0x00C, .ramReg, 2, .unclassified⟩,
   ⟨"REG_RENDERMODE", 0x302010, 0x010, .ramReg, 2, .unclassified⟩,
   ⟨"REG_SNAPY", 0x302014, 0x014, .ramReg, 2, .unclassified⟩,
   ⟨"REG_SNAPSHOT", 0x302018, 0x018, .ramReg, 2, .unclassified⟩,
   ⟨"REG_SNAPFORMAT", 0x30201C, 0x01C, .ramReg, 2, .unclassified⟩,
   ⟨"REG_CPURESET", 0x302020, 0x020, .ramReg, 2, .unclassified⟩,
   ⟨"REG_TAP_CRC", 0x302024, 0x024, .ramReg, 2, .unclassified⟩,
   ⟨"REG_TAP_MASK", 0x302028, 0x028, .ramReg, 2, .unclassified⟩,
   ⟨"REG_HCYCLE", 0x30202C, 0x02C, .ramReg, 2, .readWrite⟩,
   ⟨"REG_HOFFSET", 0x302030, 0x030, .ramReg, 2, .readWrite⟩,
   ⟨"REG_HSIZE", 0x302034, 0x034, .ramReg, 2, .readWrite⟩,
   ⟨"REG_HSYNC0", 0x302038, 0x038, .ramReg, 2, .readWrite⟩,
   ⟨"REG_HSYNC1", 0x30203C, 0x03C, .ramReg, 2, .readWrite⟩,
   ⟨"REG_VCYCLE", 0x302040, 0x040, .ramReg, 2, .unclassified⟩,
   ⟨"REG_VOFFSET", 0x302044, 0x044, .ramReg, 2, .readWrite⟩,
   ⟨"REG_VSIZE", 0x302048, 0x048, .ramReg, 2, .readWrite⟩,
   ⟨"REG_VSYNC0", 0x30204C, 0x04C, .ramReg, 2, .readWrite⟩,
   ⟨"REG_VSYNC1", 0x302050, 0x050, .ramReg, 2, .readWrite⟩,
   ⟨"REG_DLSWAP", 0x302054, 0x054, .ramReg, 2, .writeOnly⟩,
   ⟨"REG_ROTATE", 0x302058, 0x058, .ramReg, 2, .unclassified⟩,
   ⟨"REG_OUTBITS", 0x30205C, 0x05C, .ramReg, 2, .unclassified⟩,
   ⟨"REG_DITHER", 0x302060, 0x060, .ramReg, 2, .unclassified⟩,
   ⟨"REG_SWIZZLE", 0x302064, 0x064, .ramReg, 2, .unclassified⟩,
   ⟨"REG_CSPREAD", 0x302068, 0x068, .ramReg, 2, .unclassified⟩,
   ⟨"REG_PCLK_POL", 0x30206C, 0x06C, .ramReg, 2, .unclassified⟩,
   ⟨"REG_PCLK", 0x302070, 0x070, .ramReg, 2, .unclassified⟩,
   ⟨"REG_TAG_X", 0x302074, 0x074, .ramReg, 2, .unclassified⟩,
   ⟨"REG_TAG_Y", 0x302078, 0x078, .ramReg, 2, .unclassified⟩,
   ⟨"REG_TAG", 0x30207C, 0x07C, .ramReg, 2, .unclassified⟩]

/-- R264, part 2 of 3: tier-2 registers in window 1. -/
def registersWindow1b : List RegisterEntry :=
  [⟨"REG_VOL_PB", 0x302080, 0x080, .ramReg, 2, .unclassified⟩,
   ⟨"REG_VOL_SOUND", 0x302084, 0x084, .ramReg, 2, .unclassified⟩,
   ⟨"REG_SOUND", 0x302088, 0x088, .ramReg, 2, .unclassified⟩,
   ⟨"REG_PLAY", 0x30208C, 0x08C, .ramReg, 2, .unclassified⟩,
   ⟨"REG_GPIO_DIR", 0x302090, 0x090, .ramReg, 2, .unclassified⟩,
   ⟨"REG_GPIO", 0x302094, 0x094, .ramReg, 2, .unclassified⟩,
   ⟨"REG_GPIOX_DIR", 0x302098, 0x098, .ramReg, 2, .unclassified⟩,
   ⟨"REG_GPIOX", 0x30209C, 0x09C, .ramReg, 2, .unclassified⟩,
   ⟨"REG_INT_FLAGS", 0x3020A8, 0x0A8, .ramReg, 2, .readOnly⟩,
   ⟨"REG_INT_EN", 0x3020AC, 0x0AC, .ramReg, 2, .unclassified⟩,
   ⟨"REG_INT_MASK", 0x3020B0, 0x0B0, .ramReg, 2, .writeOnly⟩,
   ⟨"REG_PLAYBACK_START", 0x3020B4, 0x0B4, .ramReg, 2, .unclassified⟩,
   ⟨"REG_PLAYBACK_LENGTH", 0x3020B8, 0x0B8, .ramReg, 2, .unclassified⟩,
   ⟨"REG_PLAYBACK_READPTR", 0x3020BC, 0x0BC, .ramReg, 2, .unclassified⟩,
   ⟨"REG_PLAYBACK_FREQ", 0x3020C0, 0x0C0, .ramReg, 2, .unclassified⟩,
   ⟨"REG_PLAYBACK_FORMAT", 0x3020C4, 0x0C4, .ramReg, 2, .unclassified⟩,
   ⟨"REG_PLAYBACK_LOOP", 0x3020C8, 0x0C8, .ramReg, 2, .unclassified⟩,
   ⟨"REG_PLAYBACK_PLAY", 0x3020CC, 0x0CC, .ramReg, 2, .unclassified⟩,
   ⟨"REG_PWM_HZ", 0x3020D0, 0x0D0, .ramReg, 2, .unclassified⟩,
   ⟨"REG_PWM_DUTY", 0x3020D4, 0x0D4, .ramReg, 2, .unclassified⟩,
   ⟨"REG_MACRO_0", 0x3020D8, 0x0D8, .ramReg, 2, .unclassified⟩,
   ⟨"REG_MACRO_1", 0x3020DC, 0x0DC, .ramReg, 2, .unclassified⟩,
   ⟨"REG_CMD_READ", 0x3020F8, 0x0F8, .ramReg, 2, .unclassified⟩,
   ⟨"REG_CMD_WRITE", 0x3020FC, 0x0FC, .ramReg, 2, .unclassified⟩,
   ⟨"REG_CMD_DL", 0x302100, 0x100, .ramReg, 2, .unclassified⟩,
   ⟨"REG_TOUCH_MODE", 0x302104, 0x104, .ramReg, 2, .unclassified⟩,
   ⟨"REG_TOUCH_ADC_MODE", 0x302108, 0x108, .ramReg, 2, .unclassified⟩,
   ⟨"REG_TOUCH_CHARGE", 0x30210C, 0x10C, .ramReg, 2, .unclassified⟩,
   ⟨"REG_TOUCH_SETTLE", 0x302110, 0x110, .ramReg, 2, .unclassified⟩,
   ⟨"REG_TOUCH_OVERSAMPLE", 0x302114, 0x114, .ramReg, 2, .unclassified⟩,
   ⟨"REG_TOUCH_RZTHRESH", 0x302118, 0x118, .ramReg, 2, .unclassified⟩,
   ⟨"REG_TOUCH_RAW_XY", 0x30211C, 0x11C, .ramReg, 2, .readOnly⟩]

/-- R264, part 3 of 3: tier-2 registers in window 1. -/
def registersWindow1c : List RegisterEntry :=
  [⟨"REG_TOUCH_RZ", 0x302120, 0x120, .ramReg, 2, .unclassified⟩,
   ⟨"REG_TOUCH_SCREEN_XY", 0x302124, 0x124, .ramReg, 2, .readOnly⟩,
   ⟨"REG_TOUCH_TAG_XY", 0x302128, 0x128, .ramReg, 2, .readOnly⟩,
   ⟨"REG_TOUCH_TAG", 0x30212C, 0x12C, .ramReg, 2, .unclassified⟩,
   ⟨"REG_TOUCH_TAG1_XY", 0x302130, 0x130, .ramReg, 2, .readOnly⟩,
   ⟨"REG_TOUCH_TAG1", 0x302134, 0x134, .ramReg, 2, .unclassified⟩,
   ⟨"REG_TOUCH_TAG2_XY", 0x302138, 0x138, .ramReg, 2, .readOnly⟩,
   ⟨"REG_TOUCH_TAG2", 0x30213C, 0x13C, .ramReg, 2, .unclassified⟩,
   ⟨"REG_TOUCH_TAG3_XY", 0x302140, 0x140, .ramReg, 2, .readOnly⟩,
   ⟨"REG_TOUCH_TAG3", 0x302144, 0x144, .ramReg, 2, .unclassified⟩,
   ⟨"REG_TOUCH_TAG4_XY", 0x302148, 0x148, .ramReg, 2, .readOnly⟩,
   ⟨"REG_TOUCH_TAG4", 0x30214C, 0x14C, .ramReg, 2, .unclassified⟩,
   ⟨"REG_TOUCH_TRANSFORM_A", 0x302150, 0x150, .ramReg, 2, .unclassified⟩,
   ⟨"REG_TOUCH_TRANSFORM_B", 0x302154, 0x154, .ramReg, 2, .unclassified⟩,
   ⟨"REG_TOUCH_TRANSFORM_C", 0x302158, 0x158, .ramReg, 2, .unclassified⟩,
   ⟨"REG_TOUCH_TRANSFORM_D", 0x30215C, 0x15C, .ramReg, 2, .unclassified⟩,
   ⟨"REG_TOUCH_TRANSFORM_E", 0x302160, 0x160, .ramReg, 2, .unclassified⟩,
   ⟨"REG_TOUCH_TRANSFORM_F", 0x302164, 0x164, .ramReg, 2, .unclassified⟩,
   ⟨"REG_TOUCH_CONFIG", 0x302168, 0x168, .ramReg, 2, .unclassified⟩,
   ⟨"REG_CTOUCH_TOUCH4_X", 0x30216C, 0x16C, .ramReg, 2, .readOnly⟩,
   ⟨"REG_BIST_EN", 0x302174, 0x174, .ramReg, 2, .unclassified⟩,
   ⟨"REG_TRIM", 0x302180, 0x180, .ramReg, 2, .unclassified⟩,
   ⟨"REG_ANA_COMP", 0x302184, 0x184, .ramReg, 2, .unclassified⟩,
   ⟨"REG_SPI_WIDTH", 0x302188, 0x188, .ramReg, 2, .unclassified⟩,
   ⟨"REG_TOUCH_DIRECT_XY", 0x30218C, 0x18C, .ramReg, 2, .readOnly⟩,
   ⟨"REG_TOUCH_DIRECT_Z1Z2", 0x302190, 0x190, .ramReg, 2, .unclassified⟩,
   ⟨"REG_DATESTAMP", 0x302564, 0x564, .ramReg, 2, .unclassified⟩,
   ⟨"REG_CMDB_SPACE", 0x302574, 0x574, .ramReg, 2, .unclassified⟩,
   ⟨"REG_CMDB_WRITE", 0x302578, 0x578, .ramReg, 2, .unclassified⟩]

/-- R265: tier-2 registers in window 2. -/
def registersWindow2 : List RegisterEntry :=
  [⟨"REG_TRACKER", 0x309000, 0x000, .ramReg2, 2, .unclassified⟩,
   ⟨"REG_TRACKER_1", 0x309004, 0x004, .ramReg2, 2, .unclassified⟩,
   ⟨"REG_TRACKER_2", 0x309008, 0x008, .ramReg2, 2, .unclassified⟩,
   ⟨"REG_TRACKER_3", 0x30900C, 0x00C, .ramReg2, 2, .unclassified⟩,
   ⟨"REG_TRACKER_4", 0x309010, 0x010, .ramReg2, 2, .unclassified⟩,
   ⟨"REG_MEDIAFIFO_READ", 0x309014, 0x014, .ramReg2, 2, .unclassified⟩,
   ⟨"REG_MEDIAFIFO_WRITE", 0x309018, 0x018, .ramReg2, 2, .unclassified⟩]

/-- R266: tier-3 additions. -/
def registersTier3 : List RegisterEntry :=
  [⟨"REG_ADAPTIVE_FRAMERATE", 0x30257C, 0x57C, .ramReg, 3, .unclassified⟩,
   ⟨"REG_FLASH_STATUS", 0x3025F0, 0x5F0, .ramReg, 3, .unclassified⟩,
   ⟨"REG_FLASH_SIZE", 0x309024, 0x024, .ramReg2, 3, .unclassified⟩,
   ⟨"REG_ANIM_ACTIVE", 0x30902C, 0x02C, .ramReg2, 3, .unclassified⟩,
   ⟨"REG_PLAY_CONTROL", 0x30914E, 0x14E, .ramReg2, 3, .unclassified⟩,
   ⟨"REG_COPRO_PATCH_PTR", 0x309162, 0x162, .ramReg2, 3, .unclassified⟩]

/-- R267: tier-4 additions. -/
def registersTier4 : List RegisterEntry :=
  [⟨"REG_UNDERRUN", 0x30260C, 0x60C, .ramReg, 4, .unclassified⟩,
   ⟨"REG_AH_HCYCLE_MAX", 0x302610, 0x610, .ramReg, 4, .unclassified⟩,
   ⟨"REG_PCLK_FREQ", 0x302614, 0x614, .ramReg, 4, .unclassified⟩,
   ⟨"REG_PCLK_2X", 0x302618, 0x618, .ramReg, 4, .unclassified⟩]

/-- Every register of 45_register_address_map.md R264 to R267. -/
def registers : List RegisterEntry :=
  registersWindow1a ++ registersWindow1b ++ registersWindow1c ++ registersWindow2 ++ registersTier3 ++ registersTier4

/-- R268: the second names, each with the register it is the same as. -/
def registerSynonyms : List (String × String) :=
  [("REG_CTOUCH_EXTENDED", "REG_TOUCH_ADC_MODE"),
   ("REG_CTOUCH_TOUCH1_XY", "REG_TOUCH_RAW_XY"),
   ("REG_CTOUCH_TOUCH4_Y", "REG_TOUCH_RZ"),
   ("REG_CTOUCH_TOUCH0_XY", "REG_TOUCH_SCREEN_XY"),
   ("REG_CTOUCH_TOUCH2_XY", "REG_TOUCH_DIRECT_XY"),
   ("REG_CTOUCH_TOUCH3_XY", "REG_TOUCH_DIRECT_Z1Z2"),
   ("REG_CTOUCH_TRANSFORM_A", "REG_TOUCH_TRANSFORM_A"),
   ("REG_CTOUCH_TRANSFORM_B", "REG_TOUCH_TRANSFORM_B"),
   ("REG_CTOUCH_TRANSFORM_C", "REG_TOUCH_TRANSFORM_C"),
   ("REG_CTOUCH_TRANSFORM_D", "REG_TOUCH_TRANSFORM_D"),
   ("REG_CTOUCH_TRANSFORM_E", "REG_TOUCH_TRANSFORM_E"),
   ("REG_CTOUCH_TRANSFORM_F", "REG_TOUCH_TRANSFORM_F")]

/-- The register of a name, second names included (R268). -/
def registerNamed (name : String) : Option RegisterEntry :=
  match registers.find? fun r => r.name == name with
  | some r => some r
  | none =>
    match registerSynonyms.find? fun q => q.1 == name with
    | some q => registers.find? fun r => r.name == q.2
    | none => none

/-- The access class the tables give a register name (45_register_address_map.md R263). -/
def accessClassOf (name : String) : Option AccessClass :=
  (registerNamed name).map RegisterEntry.access

end Sys2Proof.Machine
end

