-- ==== Sys2Proof/Machine/Constants.lean ====
section
/-! DEFINITION. The symbolic operand constants of 46_operand_constants.md: name, value and lowest tier, one list
per group. No constant has an upper tier bound. A name that occurs in two groups stands once, with the lower
tier (R290). -/

namespace Sys2Proof.Machine

/-- One named operand value (46_operand_constants.md R290). -/
structure ConstantEntry where
  name : String
  value : Nat
  tmin : Nat
  src : EntrySource
  deriving DecidableEq, Repr

/-- R291: Primitive types (BEGIN `prim`). -/
def primitiveTypes : List ConstantEntry :=
  [⟨"BITMAPS", 1, 2, .gk⟩,
   ⟨"POINTS", 2, 2, .gk⟩,
   ⟨"LINES", 3, 2, .gk⟩,
   ⟨"LINE_STRIP", 4, 2, .gk⟩,
   ⟨"EDGE_STRIP_R", 5, 2, .gk⟩,
   ⟨"EDGE_STRIP_L", 6, 2, .gk⟩,
   ⟨"EDGE_STRIP_A", 7, 2, .gk⟩,
   ⟨"EDGE_STRIP_B", 8, 2, .gk⟩,
   ⟨"RECTS", 9, 2, .doc⟩]

/-- R292: Bitmap formats, tier 2 (BITMAP_LAYOUT `format`). -/
def bitmapFormats : List ConstantEntry :=
  [⟨"ARGB1555", 0, 2, .gk⟩,
   ⟨"L1", 1, 2, .gk⟩,
   ⟨"L4", 2, 2, .gk⟩,
   ⟨"L8", 3, 2, .gk⟩,
   ⟨"RGB332", 4, 2, .gk⟩,
   ⟨"ARGB2", 5, 2, .gk⟩,
   ⟨"ARGB4", 6, 2, .gk⟩,
   ⟨"RGB565", 7, 2, .gk⟩,
   ⟨"TEXT8X8", 9, 2, .gk⟩,
   ⟨"TEXTVGA", 10, 2, .gk⟩,
   ⟨"BARGRAPH", 11, 2, .gk⟩,
   ⟨"PALETTED565", 14, 2, .gk⟩,
   ⟨"PALETTED4444", 15, 2, .gk⟩,
   ⟨"PALETTED8", 16, 2, .gk⟩,
   ⟨"L2", 17, 2, .gk⟩]

/-- R293: Extended bitmap formats, tier 3. -/
def extendedFormats : List ConstantEntry :=
  [⟨"GLFORMAT", 31, 3, .gk⟩,
   ⟨"COMPRESSED_RGBA_ASTC_4x4_KHR", 37808, 3, .gk⟩,
   ⟨"COMPRESSED_RGBA_ASTC_5x4_KHR", 37809, 3, .gk⟩,
   ⟨"COMPRESSED_RGBA_ASTC_5x5_KHR", 37810, 3, .gk⟩,
   ⟨"COMPRESSED_RGBA_ASTC_6x5_KHR", 37811, 3, .gk⟩,
   ⟨"COMPRESSED_RGBA_ASTC_6x6_KHR", 37812, 3, .gk⟩,
   ⟨"COMPRESSED_RGBA_ASTC_8x5_KHR", 37813, 3, .gk⟩,
   ⟨"COMPRESSED_RGBA_ASTC_8x6_KHR", 37814, 3, .gk⟩,
   ⟨"COMPRESSED_RGBA_ASTC_8x8_KHR", 37815, 3, .gk⟩,
   ⟨"COMPRESSED_RGBA_ASTC_10x5_KHR", 37816, 3, .gk⟩,
   ⟨"COMPRESSED_RGBA_ASTC_10x6_KHR", 37817, 3, .gk⟩,
   ⟨"COMPRESSED_RGBA_ASTC_10x8_KHR", 37818, 3, .gk⟩,
   ⟨"COMPRESSED_RGBA_ASTC_10x10_KHR", 37819, 3, .gk⟩,
   ⟨"COMPRESSED_RGBA_ASTC_12x10_KHR", 37820, 3, .gk⟩,
   ⟨"COMPRESSED_RGBA_ASTC_12x12_KHR", 37821, 3, .gk⟩]

/-- R294: Test functions (ALPHA_FUNC, STENCIL_FUNC `func`). -/
def testFunctions : List ConstantEntry :=
  [⟨"NEVER", 0, 2, .gk⟩,
   ⟨"LESS", 1, 2, .gk⟩,
   ⟨"LEQUAL", 2, 2, .gk⟩,
   ⟨"GREATER", 3, 2, .gk⟩,
   ⟨"GEQUAL", 4, 2, .gk⟩,
   ⟨"EQUAL", 5, 2, .gk⟩,
   ⟨"NOTEQUAL", 6, 2, .gk⟩,
   ⟨"ALWAYS", 7, 2, .gk⟩]

/-- R295: Blend factors (BLEND_FUNC `src`, `dst`). -/
def blendFactors : List ConstantEntry :=
  [⟨"ZERO", 0, 2, .gk⟩,
   ⟨"ONE", 1, 2, .gk⟩,
   ⟨"SRC_ALPHA", 2, 2, .gk⟩,
   ⟨"DST_ALPHA", 3, 2, .gk⟩,
   ⟨"ONE_MINUS_SRC_ALPHA", 4, 2, .gk⟩,
   ⟨"ONE_MINUS_DST_ALPHA", 5, 2, .gk⟩]

/-- R296: Stencil operations (STENCIL_OP `sfail`, `spass`). (ZERO stands in blendFactors, R290.) -/
def stencilOperations : List ConstantEntry :=
  [⟨"KEEP", 1, 2, .gk⟩,
   ⟨"REPLACE", 2, 2, .gk⟩,
   ⟨"INCR", 3, 2, .gk⟩,
   ⟨"DECR", 4, 2, .gk⟩,
   ⟨"INVERT", 5, 2, .gk⟩]

/-- R297: Filter and wrap (BITMAP_SIZE `filter`, `wrapx`, `wrapy`). -/
def filterAndWrap : List ConstantEntry :=
  [⟨"NEAREST", 0, 2, .gk⟩,
   ⟨"BILINEAR", 1, 2, .gk⟩,
   ⟨"BORDER", 0, 2, .gk⟩,
   ⟨"REPEAT", 1, 2, .gk⟩]

/-- R298: Register-value and mask constants. -/
def registerValues : List ConstantEntry :=
  [⟨"CLR_COL", 4, 2, .gk⟩,
   ⟨"CLR_STN", 2, 2, .gk⟩,
   ⟨"CLR_TAG", 1, 2, .gk⟩,
   ⟨"DLSWAP_DONE", 0, 2, .gk⟩,
   ⟨"DLSWAP_LINE", 1, 2, .gk⟩,
   ⟨"DLSWAP_FRAME", 2, 2, .gk⟩,
   ⟨"INT_SWAP", 1, 2, .gk⟩,
   ⟨"INT_TOUCH", 2, 2, .gk⟩,
   ⟨"INT_TAG", 4, 2, .gk⟩,
   ⟨"INT_SOUND", 8, 2, .gk⟩,
   ⟨"INT_PLAYBACK", 16, 2, .gk⟩,
   ⟨"INT_CMDEMPTY", 32, 2, .gk⟩,
   ⟨"INT_CMDFLAG", 64, 2, .gk⟩,
   ⟨"INT_CONVCOMPLETE", 128, 2, .gk⟩]

/-- R299: Swizzle sources (BITMAP_SWIZZLE `r`, `g`, `b`, `a`). (ZERO, ONE stand in blendFactors, R290.) -/
def swizzleSources : List ConstantEntry :=
  [⟨"RED", 2, 3, .gk⟩,
   ⟨"GREEN", 3, 3, .gk⟩,
   ⟨"BLUE", 4, 3, .gk⟩,
   ⟨"ALPHA", 5, 3, .gk⟩]

/-- Every constant name of 46_operand_constants.md (80 names). -/
def constants : List ConstantEntry :=
  primitiveTypes ++ bitmapFormats ++ extendedFormats ++ testFunctions ++ blendFactors ++ stencilOperations ++ filterAndWrap ++ registerValues ++ swizzleSources

end Sys2Proof.Machine
end

