-- ==== Sys2Proof/Machine/Ops.lean ====
section
/-! DEFINITION. What each port answers, as a function of the parameters, TIER, CONFIGURED and the request alone
(10_state.md R30), and the named operations that drive a port. An error or a refusal is a response: it is driven
on the port like any other and leaves all else as it was (60_exceptions.md R305), which is the block's whole
"trap" (R305, R306). -/

namespace Sys2Proof.Machine

/-! The map table. -/

/-- Which kind of name an entry is: decides the error code (45_register_address_map.md R261). -/
inductive NameKind where
  | register
  | window
  | constant
  deriving DecidableEq, Repr

/-- One entry of the map's namespace: `(value, tmin, tmax, kind, entry_src)` (45_register_address_map.md R261). -/
structure MapEntry where
  value : MapValue
  tiers : TierRange
  kind : NameKind
  src : EntrySource
  deriving DecidableEq, Repr

/-- The entry of a register name or of its second name (45_register_address_map.md R264 to R268). -/
def registerEntry (r : RegisterEntry) : MapEntry :=
  ⟨.address (BitVec.ofNat 24 r.address), ⟨r.tmin, none⟩, .register, .gk⟩

/-- The entry of a window name (20_memory.md R41, 45_register_address_map.md R268). -/
def windowEntry (w : Window) : MapEntry :=
  ⟨.address (BitVec.ofNat 24 (windowBase w)), windowTiers w, .window, windowSource w⟩

/-- The entry of a constant name (46_operand_constants.md R290). -/
def constantEntry (c : ConstantEntry) : MapEntry :=
  ⟨.constant c.value, ⟨c.tmin, none⟩, .constant, c.src⟩

/-- The entry of a name in the one namespace of registers, windows and constants
(45_register_address_map.md R260). -/
def mapEntryNamed (name : String) : Option MapEntry :=
  match registerNamed name with
  | some r => some (registerEntry r)
  | none =>
    match windowOrder.find? fun w => windowName w == name with
    | some w => some (windowEntry w)
    | none => (constants.find? fun c => c.name == name).map constantEntry

/-! Errors. -/

/-- The code of an error (60_exceptions.md R301, R302). -/
def errorCode : ErrorInfo → Nat
  | .generationMismatch .instruction _ _ _ _ => 1
  | .generationMismatch .hostCommand _ _ _ _ => 2
  | .generationMismatch .registerOrWindow _ _ _ _ => 3
  | .generationMismatch .constant _ _ _ _ => 4
  | .operandRange _ _ _ => 5

/-- `raise GenerationMismatch(kind, item, TIER, tmin, tmax)` (60_exceptions.md R301). -/
def mismatch {α : Type} (kind : MismatchKind) (item : Item) (t : Tier) (r : TierRange) : Response α :=
  .err (.generationMismatch kind item t.toNat r.tmin r.tmax)

/-! The answers of the ports. -/

/-- The encoder on a known row: `encode` of 30_encoding.md R65, in the check order of 60_exceptions.md R304. -/
def wordResponse (p : Params) (t : Tier) (configured : Bool) (op : DlOp) (args : List Int) : Response Word :=
  if configured = false then .refused .unconfigured
  else if p.gkTableEnabled = false ∧ (opsel p op).src = .gk then .refused .notInSource
  else if tierVisible (opsel p op).tiers t = false then
    mismatch .instruction ⟨(opsel p op).mnemonic, (opsel p op).variant⟩ t (opsel p op).tiers
  else if args.length ≠ (opsel p op).fields.length then .refused .arity
  else
    match (if p.strictRange then firstOutOfRange args (opsel p op).fields else none) with
    | some (f, v) => .err (.operandRange (opsel p op).mnemonic f.name v)
    | none => .ok (encodeWord p op args)

/-- The framer on a known command: `frame` of 44_host_commands.md R231. The tier check comes before the refusal
of general-knowledge byte values (60_exceptions.md R304, items 5 and 7). -/
def frameResponse (p : Params) (t : Tier) (configured : Bool) (c : HostCmd) (param : Int) : Response Frame :=
  if configured = false then .refused .unconfigured
  else if tierVisible (hostRow c).tiers t = false then
    mismatch .hostCommand ⟨(hostRow c).name, none⟩ t (hostRow c).tiers
  else if p.gkTableEnabled = false then .refused .notInSource
  else if p.strictRange = true ∧ ¬ (0 ≤ param ∧ param < 256) then
    .err (.operandRange (hostRow c).name "param" param)
  else .ok (encodeFrame c param)

/-- The integer an operand is, if it is one. -/
def Operand.int? : Operand → Option Int
  | .int v => some v
  | .nonInteger _ => none

/-- The integers of a list of operands, none where one is not an integer. -/
def intArgs : List Operand → Option (List Int)
  | [] => some []
  | a :: rest =>
    match a.int?, intArgs rest with
    | some v, some vs => some (v :: vs)
    | _, _ => none

/-- The encoder port on any request (10_state.md R22): Unconfigured, NonInteger, UnknownInstruction, then the row
(60_exceptions.md R304). -/
def encAnswer (p : Params) (t : Tier) (configured : Bool) (mnemonic : String) (variant : Option Variant)
    (args : List Operand) : Response Word :=
  if configured = false then .refused .unconfigured
  else
    match intArgs args with
    | none => .refused .nonInteger
    | some vs =>
      match dlOpNamed p mnemonic variant with
      | none => .refused .unknownInstruction
      | some op => wordResponse p t configured op vs

/-- The parameter of a host request, 0 if the caller gives none (44_host_commands.md R230). -/
def hostParam (param : Option Operand) : Operand :=
  param.getD (.int 0)

/-- The framer port on any request (10_state.md R23, 44_host_commands.md R231). -/
def hostAnswer (p : Params) (t : Tier) (configured : Bool) (cmd : String) (param : Option Operand) :
    Response Frame :=
  if configured = false then .refused .unconfigured
  else
    match (hostParam param).int? with
    | none => .refused .nonInteger
    | some v =>
      match hostCmdNamed cmd with
      | none => .refused .unknownHostCommand
      | some c => frameResponse p t configured c v

/-- The error kind of a name: 3 for a register or window, 4 for a constant (45_register_address_map.md R261). -/
def mismatchKind : NameKind → MismatchKind
  | .constant => .constant
  | _ => .registerOrWindow

/-- `lookup` of 45_register_address_map.md R261. -/
def mapAnswer (p : Params) (t : Tier) (configured : Bool) (name : String) : Response MapValue :=
  if configured = false then .refused .unconfigured
  else
    match mapEntryNamed name with
    | none => .refused .unknownName
    | some e =>
      if p.gkTableEnabled = false ∧ e.src = .gk then .refused .notInSource
      else if tierVisible e.tiers t = false then mismatch (mismatchKind e.kind) ⟨name, none⟩ t e.tiers
      else .ok e.value

/-- `region_req`: refused outside 24 bits, else the window, with no tier check (20_memory.md R42,
60_exceptions.md R303, 70_reset_and_hazards.md R331). -/
def regionAnswer (p : Params) (configured : Bool) (addr : Operand) : Response MapValue :=
  if configured = false then .refused .unconfigured
  else
    match addr.int? with
    | none => .refused .nonInteger
    | some a =>
      if a < 0 ∨ 2 ^ 24 ≤ a then .refused .addrRange
      else .ok (.region (regionOf p a.toNat))

/-! Driving a port: the response is written to that port and to nothing else (00_scope.md R11, 60_exceptions.md
R305). -/

/-- `out <- r` on the encoder port. -/
def State.driveEnc (s : State) (r : Response Word) : State :=
  { s with encOut := some r }

/-- `out <- r` on the host framer port. -/
def State.driveHost (s : State) (r : Response Frame) : State :=
  { s with hostOut := some r }

/-- `out <- r` on the map port. -/
def State.driveMap (s : State) (r : Response MapValue) : State :=
  { s with mapOut := some r }

/-- `out <- r` on the configuration port. -/
def State.driveCfg (s : State) (r : Response Unit) : State :=
  { s with cfgOut := some r }

/-- TIER and CONFIGURED after a configuring reset (10_state.md R25). -/
def State.configure (s : State) (t : Tier) : State :=
  { s with tier := t, configured := true }

/-- TIER and CONFIGURED after a reset event with an illegal tier on a block that is not configured, which is
refused (93_implementation_defined.md U3): CONFIGURED 0, TIER unspecified, a free value (10_state.md R25; log
entry 6). -/
def State.unconfigure (s : State) : State :=
  { s with tier := Config.unspecifiedTier s.freeIndex, configured := false, freeIndex := s.freeIndex + 1 }

/-- The reset event `rst(cfg_tier)` of 70_reset_and_hazards.md R330. A configured block refuses another tier
(an illegal one too). A block that is not configured refuses an illegal tier as well and stays unconfigured
(93_implementation_defined.md U3), with TIER unspecified. The event that is not refused is acknowledged. The reason
of the one refusal and the acknowledgement are log entry 13. -/
def State.rst (s : State) (cfgTier : Operand) : State :=
  match cfgTier.int? with
  | none => s.driveCfg (.refused .nonInteger)
  | some v =>
    match normTier v with
    | some t =>
      if s.configured = true ∧ t ≠ s.tier then s.driveCfg (.refused .tierChange)
      else (s.configure t).driveCfg (.ok ())
    | none =>
      if s.configured = true then s.driveCfg (.refused .tierChange)
      else s.unconfigure.driveCfg (.refused .illegalTier)

/-- A write of TIER other than `rst` (60_exceptions.md R303; log entry 14). -/
def writeTierAnswer (configured : Bool) (newTier : Operand) : Response Unit :=
  if configured = false then .refused .unconfigured
  else
    match newTier.int? with
    | none => .refused .nonInteger
    | some _ => .refused .tierChange

/-! The meanings of the instructions are these two operations on their row. -/

/-- One display-list instruction: the encoder answers it on its port (10_state.md R22). -/
def wordRequest (op : DlOp) (args : List Int) (s : State) : Host.Outcome State Fault Refusal :=
  .next (s.driveEnc (wordResponse s.params s.tier s.configured op args))

/-- One host command: the framer answers it on its port (10_state.md R23). -/
def frameRequest (c : HostCmd) (param : Int) (s : State) : Host.Outcome State Fault Refusal :=
  .next (s.driveHost (frameResponse s.params s.tier s.configured c param))

/-! Requests. -/

/-- Serve one request, whatever it names: each of the ports answers it (10_state.md R22 to R25). -/
def State.serve (s : State) : Request → State
  | .enc mnemonic variant args => s.driveEnc (encAnswer s.params s.tier s.configured mnemonic variant args)
  | .host cmd param => s.driveHost (hostAnswer s.params s.tier s.configured cmd param)
  | .map name => s.driveMap (mapAnswer s.params s.tier s.configured name)
  | .region addr => s.driveMap (regionAnswer s.params s.configured addr)
  | .rst cfgTier => s.rst cfgTier
  | .writeTier newTier => s.driveCfg (writeTierAnswer s.configured newTier)

/-- The instruction a request names: a known row or command with integer operands, as many as the row has
fields. Any other request is answered without one. -/
def Request.instr? (p : Params) : Request → Option Instr
  | .enc mnemonic variant args =>
    match intArgs args, dlOpNamed p mnemonic variant with
    | some vs, some op => if vs.length = (opsel p op).fields.length then some (instrOfOp op vs) else none
    | _, _ => none
  | .host cmd param =>
    match (hostParam param).int?, hostCmdNamed cmd with
    | some v, some c => some (instrOfHost c v)
    | _, _ => none
  | _ => none

/-- The request that names an instruction. -/
def requestOf (p : Params) (i : Instr) : Request :=
  match i.item with
  | .dl op => .enc (opsel p op).mnemonic (opsel p op).variant (i.args.map .int)
  | .host c => .host (hostRow c).name (some (.int (i.args.getD 0 0)))

/-- A caller hands a request to the block: it is served after those already waiting (20_memory.md R49). -/
def State.submit (s : State) (r : Request) : State :=
  { s with requests := s.requests ++ [r] }

end Sys2Proof.Machine
end

