-- ==== Sys2Proof/Machine/Bitmaps.lean ====
section
/-! DEFINITION. The meanings of the display-list instructions of 42_dl_bitmap.md: bitmaps.
Each is one request to the encoder (R65): a word on the encoder port, or the error or refusal that R65 gives. -/

namespace Sys2Proof.Machine

/-- R161 BITMAP_LAYOUT(format, linestride, height): set bitmap layout: opcode 0x07, format 5@19, linestride 10@9, height 9@0. -/
def execBitmapLayout (fmt linestride height : Int) (s : State) : Host.Outcome State Fault Refusal :=
  wordRequest .bitmapLayout [fmt, linestride, height] s

/-- R162 BITMAP_SOURCE(addr): set bitmap source address: opcode 0x01, addr B@0. -/
def execBitmapSource (addr : Int) (s : State) : Host.Outcome State Fault Refusal :=
  wordRequest .bitmapSource [addr] s

/-- R163 BITMAP_HANDLE(handle): select bitmap handle: opcode 0x05, handle 5@0. -/
def execBitmapHandle (handle : Int) (s : State) : Host.Outcome State Fault Refusal :=
  wordRequest .bitmapHandle [handle] s

/-- R164 CELL(cell): select bitmap cell: opcode 0x06, cell 7@0. -/
def execCell (cellIndex : Int) (s : State) : Host.Outcome State Fault Refusal :=
  wordRequest .cell [cellIndex] s

/-- R165 BITMAP_SIZE(filter, wrapx, wrapy, width, height): set bitmap drawn size: opcode 0x08, filter 1@20, wrapx 1@19, wrapy 1@18, width 9@9, height 9@0. -/
def execBitmapSize (filter wrapx wrapy width height : Int) (s : State) : Host.Outcome State Fault Refusal :=
  wordRequest .bitmapSize [filter, wrapx, wrapy, width, height] s

/-- R166 BITMAP_LAYOUT_H(linestride, height): high bits of bitmap layout: opcode 0x28, linestride 2@2, height 2@0. -/
def execBitmapLayoutH (linestride height : Int) (s : State) : Host.Outcome State Fault Refusal :=
  wordRequest .bitmapLayoutH [linestride, height] s

/-- R167 BITMAP_SIZE_H(width, height): high bits of bitmap size: opcode 0x29, width 2@2, height 2@0. -/
def execBitmapSizeH (width height : Int) (s : State) : Host.Outcome State Fault Refusal :=
  wordRequest .bitmapSizeH [width, height] s

/-- R168 PALETTE_SOURCE(addr): set palette address: opcode 0x2A, addr 22@0. -/
def execPaletteSource (addr : Int) (s : State) : Host.Outcome State Fault Refusal :=
  wordRequest .paletteSource [addr] s

/-- R170 BITMAP_TRANSFORM_A(a), tier 2: transform coefficient A: opcode 0x15, a W@0. -/
def execBitmapTransformAG2 (a : Int) (s : State) : Host.Outcome State Fault Refusal :=
  wordRequest .bitmapTransformAG2 [a] s

/-- R171 BITMAP_TRANSFORM_A(p, v), tiers 3 and 4: transform coefficient A with selector: opcode 0x15, p 1@17, v 17@0. -/
def execBitmapTransformAG3 (p v : Int) (s : State) : Host.Outcome State Fault Refusal :=
  wordRequest .bitmapTransformAG3 [p, v] s

/-- R172 BITMAP_TRANSFORM_B(b), tier 2: transform coefficient B: opcode 0x16, b W@0. -/
def execBitmapTransformBG2 (b : Int) (s : State) : Host.Outcome State Fault Refusal :=
  wordRequest .bitmapTransformBG2 [b] s

/-- R173 BITMAP_TRANSFORM_B(p, v), tiers 3 and 4: transform coefficient B with selector: opcode 0x16, p 1@17, v 17@0. -/
def execBitmapTransformBG3 (p v : Int) (s : State) : Host.Outcome State Fault Refusal :=
  wordRequest .bitmapTransformBG3 [p, v] s

/-- R174 BITMAP_TRANSFORM_C(c): transform coefficient C: opcode 0x17, c 24@0. -/
def execBitmapTransformC (c : Int) (s : State) : Host.Outcome State Fault Refusal :=
  wordRequest .bitmapTransformC [c] s

/-- R175 BITMAP_TRANSFORM_D(d), tier 2: transform coefficient D: opcode 0x18, d W@0. -/
def execBitmapTransformDG2 (d : Int) (s : State) : Host.Outcome State Fault Refusal :=
  wordRequest .bitmapTransformDG2 [d] s

/-- R176 BITMAP_TRANSFORM_D(p, v), tiers 3 and 4: transform coefficient D with selector: opcode 0x18, p 1@17, v 17@0. -/
def execBitmapTransformDG3 (p v : Int) (s : State) : Host.Outcome State Fault Refusal :=
  wordRequest .bitmapTransformDG3 [p, v] s

/-- R177 BITMAP_TRANSFORM_E(e), tier 2: transform coefficient E: opcode 0x19, e W@0. -/
def execBitmapTransformEG2 (e : Int) (s : State) : Host.Outcome State Fault Refusal :=
  wordRequest .bitmapTransformEG2 [e] s

/-- R178 BITMAP_TRANSFORM_E(p, v), tiers 3 and 4: transform coefficient E with selector: opcode 0x19, p 1@17, v 17@0. -/
def execBitmapTransformEG3 (p v : Int) (s : State) : Host.Outcome State Fault Refusal :=
  wordRequest .bitmapTransformEG3 [p, v] s

/-- R179 BITMAP_TRANSFORM_F(f): transform coefficient F: opcode 0x1A, f 24@0. -/
def execBitmapTransformF (f : Int) (s : State) : Host.Outcome State Fault Refusal :=
  wordRequest .bitmapTransformF [f] s

/-- R180 BITMAP_EXT_FORMAT(format), tiers 3 and 4: extended bitmap format: opcode 0x2E, format 16@0. -/
def execBitmapExtFormat (fmt : Int) (s : State) : Host.Outcome State Fault Refusal :=
  wordRequest .bitmapExtFormat [fmt] s

/-- R181 BITMAP_SWIZZLE(r, g, b, a), tiers 3 and 4: channel swizzle: opcode 0x2F, r 3@9, g 3@6, b 3@3, a 3@0. -/
def execBitmapSwizzle (r g b a : Int) (s : State) : Host.Outcome State Fault Refusal :=
  wordRequest .bitmapSwizzle [r, g, b, a] s

end Sys2Proof.Machine
end

