-- ==== Sys2Proof/Machine/Flow.lean ====
section
/-! DEFINITION. The meanings of the display-list instructions of 43_dl_flow.md: frame and flow.
Each is one request to the encoder (R65): a word on the encoder port, or the error or refusal that R65 gives. -/

namespace Sys2Proof.Machine

/-- R201 DISPLAY(): end of display list: opcode 0x00, no field. -/
def execDisplay (s : State) : Host.Outcome State Fault Refusal :=
  wordRequest .display [] s

/-- R202 CLEAR(c, s, t): clear buffers: opcode 0x26, c 1@2, s 1@1, t 1@0. -/
def execClear (cBit sBit tBit : Int) (s : State) : Host.Outcome State Fault Refusal :=
  wordRequest .clear [cBit, sBit, tBit] s

/-- R203 SAVE_CONTEXT(): push graphics context: opcode 0x22, no field. -/
def execSaveContext (s : State) : Host.Outcome State Fault Refusal :=
  wordRequest .saveContext [] s

/-- R204 RESTORE_CONTEXT(): pop graphics context: opcode 0x23, no field. -/
def execRestoreContext (s : State) : Host.Outcome State Fault Refusal :=
  wordRequest .restoreContext [] s

/-- R205 CALL(dest): call display-list subroutine: opcode 0x1D, dest 16@0. -/
def execCall (dest : Int) (s : State) : Host.Outcome State Fault Refusal :=
  wordRequest .call [dest] s

/-- R206 JUMP(dest): jump in display list: opcode 0x1E, dest 16@0. -/
def execJump (dest : Int) (s : State) : Host.Outcome State Fault Refusal :=
  wordRequest .jump [dest] s

/-- R207 RETURN(): return from display-list subroutine: opcode 0x24, no field. -/
def execRet (s : State) : Host.Outcome State Fault Refusal :=
  wordRequest .ret [] s

/-- R208 MACRO(m): execute macro register: opcode 0x25, m 1@0. -/
def execMacroReg (which : Int) (s : State) : Host.Outcome State Fault Refusal :=
  wordRequest .macroReg [which] s

/-- R209 NOP(): no operation: opcode 0x2D, no field. -/
def execNop (s : State) : Host.Outcome State Fault Refusal :=
  wordRequest .nop [] s

end Sys2Proof.Machine
end

