-- ==== Sys2Proof/Machine/GraphicsState.lean ====
section
/-! DEFINITION. The meanings of the display-list instructions of 41_dl_graphics_state.md: graphics state.
Each is one request to the encoder (R65): a word on the encoder port, or the error or refusal that R65 gives. -/

namespace Sys2Proof.Machine

/-- R121 COLOR_RGB(red, green, blue): set current colour: opcode 0x04, red 8@16, green 8@8, blue 8@0. -/
def execColorRgb (red green blue : Int) (s : State) : Host.Outcome State Fault Refusal :=
  wordRequest .colorRgb [red, green, blue] s

/-- R122 COLOR_A(alpha): set current alpha: opcode 0x10, alpha 8@0. -/
def execColorA (alpha : Int) (s : State) : Host.Outcome State Fault Refusal :=
  wordRequest .colorA [alpha] s

/-- R123 CLEAR_COLOR_RGB(red, green, blue): set clear colour: opcode 0x02, red 8@16, green 8@8, blue 8@0. -/
def execClearColorRgb (red green blue : Int) (s : State) : Host.Outcome State Fault Refusal :=
  wordRequest .clearColorRgb [red, green, blue] s

/-- R124 CLEAR_COLOR_A(alpha): set clear alpha: opcode 0x0F, alpha 8@0. -/
def execClearColorA (alpha : Int) (s : State) : Host.Outcome State Fault Refusal :=
  wordRequest .clearColorA [alpha] s

/-- R125 CLEAR_STENCIL(s): set stencil clear value: opcode 0x11, s 8@0. -/
def execClearStencil (value : Int) (s : State) : Host.Outcome State Fault Refusal :=
  wordRequest .clearStencil [value] s

/-- R126 CLEAR_TAG(s): set tag clear value: opcode 0x12, s 8@0. -/
def execClearTag (value : Int) (s : State) : Host.Outcome State Fault Refusal :=
  wordRequest .clearTag [value] s

/-- R127 TAG(s): set current tag: opcode 0x03, s 8@0. -/
def execTag (value : Int) (s : State) : Host.Outcome State Fault Refusal :=
  wordRequest .tag [value] s

/-- R128 TAG_MASK(mask): enable or disable tag buffer writes: opcode 0x14, mask 1@0. -/
def execTagMask (mask : Int) (s : State) : Host.Outcome State Fault Refusal :=
  wordRequest .tagMask [mask] s

/-- R129 POINT_SIZE(size): set point size: opcode 0x0D, size 13@0. -/
def execPointSize (size : Int) (s : State) : Host.Outcome State Fault Refusal :=
  wordRequest .pointSize [size] s

/-- R130 LINE_WIDTH(width): set line width: opcode 0x0E, width 12@0. -/
def execLineWidth (width : Int) (s : State) : Host.Outcome State Fault Refusal :=
  wordRequest .lineWidth [width] s

/-- R131 ALPHA_FUNC(func, ref): set alpha test: opcode 0x09, func 3@8, ref 8@0. -/
def execAlphaFunc (func ref : Int) (s : State) : Host.Outcome State Fault Refusal :=
  wordRequest .alphaFunc [func, ref] s

/-- R132 STENCIL_FUNC(func, ref, mask): set stencil test: opcode 0x0A, func 4@16, ref 8@8, mask 8@0. -/
def execStencilFunc (func ref mask : Int) (s : State) : Host.Outcome State Fault Refusal :=
  wordRequest .stencilFunc [func, ref, mask] s

/-- R133 STENCIL_OP(sfail, spass): set stencil actions: opcode 0x0C, sfail 3@3, spass 3@0. -/
def execStencilOp (sfail spass : Int) (s : State) : Host.Outcome State Fault Refusal :=
  wordRequest .stencilOp [sfail, spass] s

/-- R134 STENCIL_MASK(mask): set stencil write mask: opcode 0x13, mask 8@0. -/
def execStencilMask (mask : Int) (s : State) : Host.Outcome State Fault Refusal :=
  wordRequest .stencilMask [mask] s

/-- R135 BLEND_FUNC(src, dst): set blend factors: opcode 0x0B, src 3@3, dst 3@0. -/
def execBlendFunc (src dst : Int) (s : State) : Host.Outcome State Fault Refusal :=
  wordRequest .blendFunc [src, dst] s

/-- R136 COLOR_MASK(r, g, b, a): enable or disable colour channel writes: opcode 0x20, r 1@3, g 1@2, b 1@1, a 1@0. -/
def execColorMask (r g b a : Int) (s : State) : Host.Outcome State Fault Refusal :=
  wordRequest .colorMask [r, g, b, a] s

/-- R137 SCISSOR_XY(x, y): set scissor origin: opcode 0x1B, x 11@11, y 11@0. -/
def execScissorXy (x y : Int) (s : State) : Host.Outcome State Fault Refusal :=
  wordRequest .scissorXy [x, y] s

/-- R138 SCISSOR_SIZE(width, height): set scissor size: opcode 0x1C, width 12@12, height 12@0. -/
def execScissorSize (width height : Int) (s : State) : Host.Outcome State Fault Refusal :=
  wordRequest .scissorSize [width, height] s

end Sys2Proof.Machine
end

