-- ==== Sys2Proof/Machine/HostCommands.lean ====
section
/-! DEFINITION. The meanings of the host commands of 44_host_commands.md.
Each is one request to the host framer: a frame on the host port, or the error or refusal of R231. -/

namespace Sys2Proof.Machine

/-- R233 ACTIVE: the frame (0x00, param mod 256). -/
def execHostActive (param : Int) (s : State) : Host.Outcome State Fault Refusal :=
  frameRequest .active param s

/-- R234 STANDBY: the frame (0x41, param mod 256). -/
def execHostStandby (param : Int) (s : State) : Host.Outcome State Fault Refusal :=
  frameRequest .standby param s

/-- R235 SLEEP: the frame (0x42, param mod 256). -/
def execHostSleep (param : Int) (s : State) : Host.Outcome State Fault Refusal :=
  frameRequest .sleep param s

/-- R236 CLKEXT: the frame (0x44, param mod 256). -/
def execHostClkext (param : Int) (s : State) : Host.Outcome State Fault Refusal :=
  frameRequest .clkext param s

/-- R237 CLKINT: the frame (0x48, param mod 256), rejected at tier 4. -/
def execHostClkint (param : Int) (s : State) : Host.Outcome State Fault Refusal :=
  frameRequest .clkint param s

/-- R238 PWRDOWN: the frame (0x50, param mod 256). -/
def execHostPwrdown (param : Int) (s : State) : Host.Outcome State Fault Refusal :=
  frameRequest .pwrdown param s

/-- R239 CLKSEL: the frame (0x61, param mod 256). -/
def execHostClksel (param : Int) (s : State) : Host.Outcome State Fault Refusal :=
  frameRequest .clksel param s

/-- R240 RST_PULSE: the frame (0x68, param mod 256). -/
def execHostRstPulse (param : Int) (s : State) : Host.Outcome State Fault Refusal :=
  frameRequest .rstPulse param s

/-- R240 CORERST: the frame (0x68, param mod 256). -/
def execHostCorerst (param : Int) (s : State) : Host.Outcome State Fault Refusal :=
  frameRequest .corerst param s

/-- R241 PINDRIVE: the frame (0x70, param mod 256). -/
def execHostPindrive (param : Int) (s : State) : Host.Outcome State Fault Refusal :=
  frameRequest .pindrive param s

/-- R242 PIN_PD_STATE: the frame (0x71, param mod 256). -/
def execHostPinPdState (param : Int) (s : State) : Host.Outcome State Fault Refusal :=
  frameRequest .pinPdState param s

end Sys2Proof.Machine
end

