-- ==== Sys2Proof/Machine/Primitives.lean ====
section
/-! DEFINITION. The meanings of the display-list instructions of 40_dl_primitives.md: primitives and vertices.
Each is one request to the encoder (R65): a word on the encoder port, or the error or refusal that R65 gives. -/

namespace Sys2Proof.Machine

/-- R101 BEGIN(prim): set primitive type: opcode 0x1F, prim 4@0. -/
def execBeginPrim (prim : Int) (s : State) : Host.Outcome State Fault Refusal :=
  wordRequest .beginPrim [prim] s

/-- R102 END(): end primitive: opcode 0x21, no field. -/
def execEndPrim (s : State) : Host.Outcome State Fault Refusal :=
  wordRequest .endPrim [] s

/-- R103 VERTEX2F(x, y): vertex in fixed-point screen coordinates: discriminator 0b01, x 15@15, y 15@0. -/
def execVertex2f (x y : Int) (s : State) : Host.Outcome State Fault Refusal :=
  wordRequest .vertex2f [x, y] s

/-- R104 VERTEX2II(x, y, handle, cell): vertex in integer pixels with bitmap handle and cell: discriminator 0b10, x 9@21, y 9@12, handle 5@7, cell 7@0. -/
def execVertex2ii (x y handle cellIndex : Int) (s : State) : Host.Outcome State Fault Refusal :=
  wordRequest .vertex2ii [x, y, handle, cellIndex] s

/-- R105 VERTEX_FORMAT(frac): number of fractional bits in VERTEX2F coordinates: opcode 0x27, frac 3@0. -/
def execVertexFormat (frac : Int) (s : State) : Host.Outcome State Fault Refusal :=
  wordRequest .vertexFormat [frac] s

/-- R106 VERTEX_TRANSLATE_X(x): vertex translation in x: opcode 0x2B, x 17@0. -/
def execVertexTranslateX (x : Int) (s : State) : Host.Outcome State Fault Refusal :=
  wordRequest .vertexTranslateX [x] s

/-- R107 VERTEX_TRANSLATE_Y(y): vertex translation in y: opcode 0x2C, y 17@0. -/
def execVertexTranslateY (y : Int) (s : State) : Host.Outcome State Fault Refusal :=
  wordRequest .vertexTranslateY [y] s

end Sys2Proof.Machine
end

