-- ==== Sys2Proof/Machine/Dispatch.lean ====
section
/-! DEFINITION. The meaning of every instruction, one arm per row of spec/opcode_table.json, in its order. -/

namespace Sys2Proof.Machine

def exec (i : Instr) (s : State) : Host.Outcome State Fault Refusal :=
  match i with
  | .display => Sys2Proof.Machine.execDisplay s
  | .bitmapSource addr => Sys2Proof.Machine.execBitmapSource addr s
  | .clearColorRgb red green blue => Sys2Proof.Machine.execClearColorRgb red green blue s
  | .tag value => Sys2Proof.Machine.execTag value s
  | .colorRgb red green blue => Sys2Proof.Machine.execColorRgb red green blue s
  | .bitmapHandle handle => Sys2Proof.Machine.execBitmapHandle handle s
  | .cell cellIndex => Sys2Proof.Machine.execCell cellIndex s
  | .bitmapLayout fmt linestride height => Sys2Proof.Machine.execBitmapLayout fmt linestride height s
  | .bitmapSize filter wrapx wrapy width height => Sys2Proof.Machine.execBitmapSize filter wrapx wrapy width height s
  | .alphaFunc func ref => Sys2Proof.Machine.execAlphaFunc func ref s
  | .stencilFunc func ref mask => Sys2Proof.Machine.execStencilFunc func ref mask s
  | .blendFunc src dst => Sys2Proof.Machine.execBlendFunc src dst s
  | .stencilOp sfail spass => Sys2Proof.Machine.execStencilOp sfail spass s
  | .pointSize size => Sys2Proof.Machine.execPointSize size s
  | .lineWidth width => Sys2Proof.Machine.execLineWidth width s
  | .clearColorA alpha => Sys2Proof.Machine.execClearColorA alpha s
  | .colorA alpha => Sys2Proof.Machine.execColorA alpha s
  | .clearStencil value => Sys2Proof.Machine.execClearStencil value s
  | .clearTag value => Sys2Proof.Machine.execClearTag value s
  | .stencilMask mask => Sys2Proof.Machine.execStencilMask mask s
  | .tagMask mask => Sys2Proof.Machine.execTagMask mask s
  | .bitmapTransformAG2 a => Sys2Proof.Machine.execBitmapTransformAG2 a s
  | .bitmapTransformAG3 p v => Sys2Proof.Machine.execBitmapTransformAG3 p v s
  | .bitmapTransformBG2 b => Sys2Proof.Machine.execBitmapTransformBG2 b s
  | .bitmapTransformBG3 p v => Sys2Proof.Machine.execBitmapTransformBG3 p v s
  | .bitmapTransformC c => Sys2Proof.Machine.execBitmapTransformC c s
  | .bitmapTransformDG2 d => Sys2Proof.Machine.execBitmapTransformDG2 d s
  | .bitmapTransformDG3 p v => Sys2Proof.Machine.execBitmapTransformDG3 p v s
  | .bitmapTransformEG2 e => Sys2Proof.Machine.execBitmapTransformEG2 e s
  | .bitmapTransformEG3 p v => Sys2Proof.Machine.execBitmapTransformEG3 p v s
  | .bitmapTransformF f => Sys2Proof.Machine.execBitmapTransformF f s
  | .scissorXy x y => Sys2Proof.Machine.execScissorXy x y s
  | .scissorSize width height => Sys2Proof.Machine.execScissorSize width height s
  | .call dest => Sys2Proof.Machine.execCall dest s
  | .jump dest => Sys2Proof.Machine.execJump dest s
  | .beginPrim prim => Sys2Proof.Machine.execBeginPrim prim s
  | .colorMask r g b a => Sys2Proof.Machine.execColorMask r g b a s
  | .endPrim => Sys2Proof.Machine.execEndPrim s
  | .saveContext => Sys2Proof.Machine.execSaveContext s
  | .restoreContext => Sys2Proof.Machine.execRestoreContext s
  | .ret => Sys2Proof.Machine.execRet s
  | .macroReg which => Sys2Proof.Machine.execMacroReg which s
  | .clear cBit sBit tBit => Sys2Proof.Machine.execClear cBit sBit tBit s
  | .vertexFormat frac => Sys2Proof.Machine.execVertexFormat frac s
  | .bitmapLayoutH linestride height => Sys2Proof.Machine.execBitmapLayoutH linestride height s
  | .bitmapSizeH width height => Sys2Proof.Machine.execBitmapSizeH width height s
  | .paletteSource addr => Sys2Proof.Machine.execPaletteSource addr s
  | .vertexTranslateX x => Sys2Proof.Machine.execVertexTranslateX x s
  | .vertexTranslateY y => Sys2Proof.Machine.execVertexTranslateY y s
  | .nop => Sys2Proof.Machine.execNop s
  | .bitmapExtFormat fmt => Sys2Proof.Machine.execBitmapExtFormat fmt s
  | .bitmapSwizzle r g b a => Sys2Proof.Machine.execBitmapSwizzle r g b a s
  | .vertex2f x y => Sys2Proof.Machine.execVertex2f x y s
  | .vertex2ii x y handle cellIndex => Sys2Proof.Machine.execVertex2ii x y handle cellIndex s
  | .hostActive param => Sys2Proof.Machine.execHostActive param s
  | .hostStandby param => Sys2Proof.Machine.execHostStandby param s
  | .hostSleep param => Sys2Proof.Machine.execHostSleep param s
  | .hostClkext param => Sys2Proof.Machine.execHostClkext param s
  | .hostClkint param => Sys2Proof.Machine.execHostClkint param s
  | .hostPwrdown param => Sys2Proof.Machine.execHostPwrdown param s
  | .hostClksel param => Sys2Proof.Machine.execHostClksel param s
  | .hostRstPulse param => Sys2Proof.Machine.execHostRstPulse param s
  | .hostCorerst param => Sys2Proof.Machine.execHostCorerst param s
  | .hostPindrive param => Sys2Proof.Machine.execHostPindrive param s
  | .hostPinPdState param => Sys2Proof.Machine.execHostPinPdState param s

end Sys2Proof.Machine
end

