-- ==== Sys2Proof/Machine/Step.lean ====
section
/-! DEFINITION. One step: the oldest waiting request is taken and answered, in one transaction
(70_reset_and_hazards.md R340). A request that names an instruction runs that instruction's meaning; any other
request is served by its port. With nothing waiting the block idles (log entry 16). -/

namespace Sys2Proof.Machine

/-- One transaction of the block (10_state.md R22 to R25). -/
def step (s : State) : Host.Outcome State Fault Refusal :=
  match s.requests with
  | [] => .next s
  | r :: rest =>
    match r.instr? s.params with
    | some i => exec i { s with requests := rest }
    | none => .next (State.serve { s with requests := rest } r)

/-- The state in which the next step runs the instruction of an opcode-table word: its request stands first in
the queue, and a block that is not configured is configured at the tier the table is read at (log entries 10,
11). The word is read under `Params.specValues`, not under the state's own parameters (DESIGN CHOICE, log entry 30). A word that decodes to nothing becomes a request that names no instruction. -/
def State.withFetchWord (s : State) (nbits w : Nat) : State :=
  let req :=
    match decodeTableWord nbits w with
    | some i => requestOf s.params i
    | none => .enc "" none []
  let ready := if s.configured then s else s.configure tableTier
  { ready with requests := req :: s.requests }

end Sys2Proof.Machine
end

