-- ==== Sys2Proof/Machine/Image.lean ====
section
/-! DEFINITION. What the block's outputs are in memory terms (20_memory.md R45, R46): the words of a caller's
responses, in the order of the requests, and the byte image the transport writes to `RAM_DL`
(95_test_vectors.md L3). The block itself writes no memory (R43): these are functions of responses, no state. -/

namespace Sys2Proof.Machine

/-- The words of a list of responses: an error or a refusal gives none (60_exceptions.md R305). -/
def emittedWords : List (Response Word) → List Word
  | [] => []
  | .ok w :: rest => w :: emittedWords rest
  | _ :: rest => emittedWords rest

/-- The cells of bytes laid at rising addresses. -/
def cellsFrom : Nat → List Byte → List Host.Cell
  | _, [] => []
  | a, b :: rest => (a, b) :: cellsFrom (a + 1) rest

/-- The bytes of a list of words, each little-endian, the first word lowest (20_memory.md R45). -/
def streamBytes : List Word → List Byte
  | [] => []
  | w :: rest => wordBytes w ++ streamBytes rest

/-- The image of a display list: word i at `RAM_DL + 4*i` (20_memory.md R46). -/
def displayListImage (ws : List Word) : List Host.Cell :=
  cellsFrom (windowBase .ramDl) (streamBytes ws)

end Sys2Proof.Machine
end

