-- ==== Sys2Proof/Safety.lean ====
section
/-! DEFINITION. What counts as a safe run, in the terms the claims use: every step answers a next state; what
the ports hold is output the block may give at its tier; a configured tier stays. -/

namespace Sys2Proof.Safety

open Sys2Proof.Machine

/-- The step answers a next state: no request stops the block (30_encoding.md R74, 60_exceptions.md R305). -/
def StepCompletes (s : State) : Prop :=
  ∃ t, step s = .next t

/-- The word is output of the encoder at the tier: the reference decoder reads it (30_encoding.md R70, R71). -/
def IsEncoderOutput (p : Params) (t : Tier) (w : Word) : Prop :=
  ∃ i, decodeWord p t w = .instr i

/-- The frame is output of the framer at the tier (44_host_commands.md R232). -/
def IsFramerOutput (t : Tier) (f : Frame) : Prop :=
  ∃ i, decodeFrame t f = .instr i

/-- The value is one the map gives for some name visible at the tier, or a region (45_register_address_map.md
R261, 20_memory.md R42). -/
def IsMapOutput (t : Tier) : MapValue → Prop
  | .region _ => True
  | v => ∃ name e, mapEntryNamed name = some e ∧ e.value = v ∧ tierVisible e.tiers t = true

/-- An error's code is one of those a port may raise, and code 5 occurs only under STRICT_RANGE
(60_exceptions.md R301, R302). -/
def CodeAllowed (p : Params) (codes : List Nat) (e : ErrorInfo) : Prop :=
  errorCode e ∈ codes ∧ (errorCode e = 5 → p.strictRange = true)

/-- The ports hold only what the block may have answered: a word, frame or value only from a configured block and
only of its tier, an error only with a code of that port (30_encoding.md R70, 60_exceptions.md R301 to R303). -/
structure PortsSound (s : State) : Prop where
  encWord : ∀ w, s.encOut = some (.ok w) → s.configured = true ∧ IsEncoderOutput s.params s.tier w
  encErr : ∀ e, s.encOut = some (.err e) → s.configured = true ∧ CodeAllowed s.params [1, 5] e
  hostFrame : ∀ f, s.hostOut = some (.ok f) → s.configured = true ∧ IsFramerOutput s.tier f
  hostErr : ∀ e, s.hostOut = some (.err e) → s.configured = true ∧ CodeAllowed s.params [2, 5] e
  mapValue : ∀ v, s.mapOut = some (.ok v) → s.configured = true ∧ IsMapOutput s.tier v
  mapErr : ∀ e, s.mapOut = some (.err e) → s.configured = true ∧ CodeAllowed s.params [3, 4] e
  cfgErr : ∀ e, s.cfgOut ≠ some (.err e)

/-- A configured block stays configured, at the same tier; the parameters stay in any case
(10_state.md R21, 00_scope.md R7). -/
def TierKept (s t : State) : Prop :=
  t.params = s.params ∧ (s.configured = true → t.configured = true ∧ t.tier = s.tier)

/-- The response of the port a request came by. -/
inductive PortResponse where
  | enc (r : Option (Response Word))
  | host (r : Option (Response Frame))
  | map (r : Option (Response MapValue))
  | cfg (r : Option (Response Unit))
  deriving DecidableEq, Repr

/-- What the request's own port holds (10_state.md R22 to R25). -/
def responseTo (s : State) : Request → PortResponse
  | .enc _ _ _ => .enc s.encOut
  | .host _ _ => .host s.hostOut
  | .map _ => .map s.mapOut
  | .region _ => .map s.mapOut
  | .rst _ => .cfg s.cfgOut
  | .writeTier _ => .cfg s.cfgOut

/-- A response that is an error or a refusal (60_exceptions.md R300). -/
def isRejection {α : Type} : Option (Response α) → Bool
  | some (.ok _) => false
  | some _ => true
  | none => false

/-- The same for the port a request came by. -/
def PortResponse.rejected : PortResponse → Bool
  | .enc r => isRejection r
  | .host r => isRejection r
  | .map r => isRejection r
  | .cfg r => isRejection r

/-- The ports a request did not come by hold what they held. -/
def OtherPortsKept (s t : State) : Request → Prop
  | .enc _ _ _ => t.hostOut = s.hostOut ∧ t.mapOut = s.mapOut ∧ t.cfgOut = s.cfgOut
  | .host _ _ => t.encOut = s.encOut ∧ t.mapOut = s.mapOut ∧ t.cfgOut = s.cfgOut
  | .map _ => t.encOut = s.encOut ∧ t.hostOut = s.hostOut ∧ t.cfgOut = s.cfgOut
  | .region _ => t.encOut = s.encOut ∧ t.hostOut = s.hostOut ∧ t.cfgOut = s.cfgOut
  | .rst _ => t.encOut = s.encOut ∧ t.hostOut = s.hostOut ∧ t.mapOut = s.mapOut
  | .writeTier _ => t.encOut = s.encOut ∧ t.hostOut = s.hostOut ∧ t.mapOut = s.mapOut

/-- The reason of a refusal, if the response is one. -/
def refusalOf {α : Type} : Option (Response α) → Option RefusalReason
  | some (.refused r) => some r
  | _ => none

/-- The same for the port a request came by. -/
def PortResponse.refusal : PortResponse → Option RefusalReason
  | .enc r => refusalOf r
  | .host r => refusalOf r
  | .map r => refusalOf r
  | .cfg r => refusalOf r

/-- Some operand of the request is not an integer (60_exceptions.md R303, NonInteger). -/
def hasNonInteger : Request → Bool
  | .enc _ _ args => args.any fun a => a.int?.isNone
  | .host _ param => (hostParam param).int?.isNone
  | .map _ => false
  | .region addr => addr.int?.isNone
  | .rst cfgTier => cfgTier.int?.isNone
  | .writeTier newTier => newTier.int?.isNone

/-- The table of 60_exceptions.md R303: when a request may be refused for a reason. The last reason is that of
93_implementation_defined.md U3 (log entry 13). -/
def MayRefuse (s : State) (r : Request) : RefusalReason → Prop
  | .unconfigured => s.configured = false ∧ ∀ o, r ≠ .rst o
  | .unknownInstruction => ∃ m v args, r = .enc m v args ∧ dlOpNamed s.params m v = none
  | .unknownHostCommand => ∃ cmd param, r = .host cmd param ∧ hostCmdNamed cmd = none
  | .unknownName => ∃ name, r = .map name ∧ mapEntryNamed name = none
  | .notInSource => s.params.gkTableEnabled = false ∧
      ((∃ m v args op, r = .enc m v args ∧ dlOpNamed s.params m v = some op ∧ (opsel s.params op).src = .gk) ∨
       (∃ cmd param, r = .host cmd param) ∨
       (∃ name e, r = .map name ∧ mapEntryNamed name = some e ∧ e.src = .gk))
  | .arity => ∃ m v args op, r = .enc m v args ∧ dlOpNamed s.params m v = some op ∧
      args.length ≠ (opsel s.params op).fields.length
  | .addrRange => ∃ a, r = .region (.int a) ∧ (a < 0 ∨ 2 ^ 24 ≤ a)
  | .tierChange => s.configured = true ∧
      ((∃ v, r = .rst (.int v) ∧ normTier v ≠ some s.tier) ∨ (∃ o, r = .writeTier o))
  | .nonInteger => hasNonInteger r = true
  | .illegalTier => s.configured = false ∧ ∃ v : Int, v < 2 ∧ r = .rst (.int v)

/-! What a rule of 40_dl_primitives.md to 44_host_commands.md gives for one instruction, written out from the
rule: the source of its row, its tiers, its operands with the bounds of its Exceptions line, and its word or
byte. None of this reads the OPSEL table or the host command table. -/

/-- One operand as a rule names it, with the bounds low <= value < high that STRICT_RANGE asks for. -/
structure RuleOperand where
  name : String
  value : Int
  low : Int
  high : Int
  deriving DecidableEq, Repr

/-- An operand of an unsigned N-bit field (30_encoding.md R77). -/
def unsignedOperand (name : String) (n : Nat) (v : Int) : RuleOperand :=
  ⟨name, v, 0, 2 ^ n⟩

/-- An operand of a signed N-bit field (30_encoding.md R77). -/
def signedOperand (name : String) (n : Nat) (v : Int) : RuleOperand :=
  ⟨name, v, -(2 ^ (n - 1)), 2 ^ n⟩

/-- The operand is outside its bounds. -/
def RuleOperand.outside (o : RuleOperand) : Bool :=
  decide (o.value < o.low ∨ o.high ≤ o.value)

/-- Tiers 2, 3 and 4. -/
def everyTier : TierRange := ⟨2, none⟩

/-- Tier 2 only. -/
def tierTwoOnly : TierRange := ⟨2, some 2⟩

/-- Tiers 3 and 4. -/
def tierThreeUp : TierRange := ⟨3, none⟩

/-- The response of the encoder port that a display-list rule gives: refused before configuration; refused where
the row is general knowledge and switched off; GenerationMismatch outside its tiers; OperandRange for the first
operand outside its bounds, under STRICT_RANGE only; else the word. -/
def encoderRule (s : State) (src : EntrySource) (item : Item) (tiers : TierRange) (operands : List RuleOperand)
    (word : Word) : Response Word :=
  if s.configured = false then .refused .unconfigured
  else if src = .gk ∧ s.params.gkTableEnabled = false then .refused .notInSource
  else if tierVisible tiers s.tier = false then
    .err (.generationMismatch .instruction item s.tier.toNat tiers.tmin tiers.tmax)
  else
    match (if s.params.strictRange then operands.find? RuleOperand.outside else none) with
    | some o => .err (.operandRange item.name o.name o.value)
    | none => .ok word

/-- The response of the framer port that a host command rule gives. -/
def framerRule (s : State) (name : String) (tiers : TierRange) (code : Byte) (param : Int) : Response Frame :=
  if s.configured = false then .refused .unconfigured
  else if tierVisible tiers s.tier = false then
    .err (.generationMismatch .hostCommand ⟨name, none⟩ s.tier.toNat tiers.tmin tiers.tmax)
  else if s.params.gkTableEnabled = false then .refused .notInSource
  else if s.params.strictRange = true ∧ (param < 0 ∨ 255 < param) then .err (.operandRange name "param" param)
  else .ok ⟨code, BitVec.ofInt 8 param⟩

/-- The first response whose condition holds, else the last resort: a priority list (60_exceptions.md R304). -/
def firstThat {α : Type} (otherwise : α) : List (Bool × α) → α
  | [] => otherwise
  | (holds, r) :: rest => if holds then r else firstThat otherwise rest

/-- The parameters under which the spec computes its examples and test vectors: R7's values with every
`GEN2_XFORM_WIDTH(X)` = 17 (95_test_vectors.md, notation). An instance for concrete statements, not a choice of the
open widths. -/
def vectorParams : Params :=
  { Params.specValues with
    xformWidthA := .w17, xformWidthB := .w17, xformWidthD := .w17, xformWidthE := .w17 }

/-- The word is one the encoder can never emit at the tier: the three classes of 30_encoding.md R70. -/
def ReservedWord (p : Params) (t : Tier) (w : Word) : Prop :=
  w.extractLsb' 30 2 = 0b11#2 ∨
  (w.extractLsb' 30 2 = 0b00#2 ∧ (if t = .t2 then 0x2E#8 else 0x30#8) ≤ w.extractLsb' 24 8) ∨
  (∃ op, tierVisible (opsel p op).tiers t = true ∧ w &&& headerMask (opsel p op) = matchWord (opsel p op) ∧
    w &&& ~~~(usedBits (opsel p op)) ≠ 0#32)

end Sys2Proof.Safety
end

