-- ==== Sys2Proof/Certificates/Slice0/Obligations.lean ====
section
/-! DEFINITION. The statements for the provers: one def Obligations.<Name> : Prop each, listed in OBLIGATIONS.json. -/

open Sys2Proof Sys2Proof.Machine Sys2Proof.Safety

/-- R101, R102, R103, R104: the response of each rule, its word written out bit field by bit field from the rule; nothing else of the state changes. -/
def Obligations.PrimitiveAndVertexWords : Prop :=
  ∀ s : State,
    (∀ prim : Int, exec (.beginPrim prim) s = .next { s with encOut := some (encoderRule s .doc
      ⟨"BEGIN", none⟩ everyTier [unsignedOperand "prim" 4 prim]
      (0x1F#8 ++ 0#20 ++ BitVec.ofInt 4 prim)) }) ∧
    (exec (.endPrim) s = .next { s with encOut := some (encoderRule s .doc
      ⟨"END", none⟩ everyTier []
      (0x21#8 ++ 0#24)) }) ∧
    (∀ x y : Int, exec (.vertex2f x y) s = .next { s with encOut := some (encoderRule s .doc
      ⟨"VERTEX2F", none⟩ everyTier [signedOperand "x" 15 x, signedOperand "y" 15 y]
      (0b01#2 ++ BitVec.ofInt 15 x ++ BitVec.ofInt 15 y)) }) ∧
    (∀ x y handle cellIndex : Int, exec (.vertex2ii x y handle cellIndex) s = .next { s with encOut := some (encoderRule s .gk
      ⟨"VERTEX2II", none⟩ everyTier [unsignedOperand "x" 9 x, unsignedOperand "y" 9 y, unsignedOperand "handle" 5 handle, unsignedOperand "cell" 7 cellIndex]
      (0b10#2 ++ BitVec.ofInt 9 x ++ BitVec.ofInt 9 y ++ BitVec.ofInt 5 handle ++ BitVec.ofInt 7 cellIndex)) })

/-- R105, R106, R107: the response of each rule, its word written out bit field by bit field from the rule; nothing else of the state changes. -/
def Obligations.VertexFormatAndTranslateWords : Prop :=
  ∀ s : State,
    (∀ frac : Int, exec (.vertexFormat frac) s = .next { s with encOut := some (encoderRule s .gk
      ⟨"VERTEX_FORMAT", none⟩ everyTier [unsignedOperand "frac" 3 frac]
      (0x27#8 ++ 0#21 ++ BitVec.ofInt 3 frac)) }) ∧
    (∀ x : Int, exec (.vertexTranslateX x) s = .next { s with encOut := some (encoderRule s .gk
      ⟨"VERTEX_TRANSLATE_X", none⟩ everyTier [signedOperand "x" 17 x]
      (0x2B#8 ++ 0#7 ++ BitVec.ofInt 17 x)) }) ∧
    (∀ y : Int, exec (.vertexTranslateY y) s = .next { s with encOut := some (encoderRule s .gk
      ⟨"VERTEX_TRANSLATE_Y", none⟩ everyTier [signedOperand "y" 17 y]
      (0x2C#8 ++ 0#7 ++ BitVec.ofInt 17 y)) })

/-- R121, R122, R123, R124, R125, R126: the response of each rule, its word written out bit field by bit field from the rule; nothing else of the state changes. -/
def Obligations.ColourAndClearValueWords : Prop :=
  ∀ s : State,
    (∀ red green blue : Int, exec (.colorRgb red green blue) s = .next { s with encOut := some (encoderRule s .doc
      ⟨"COLOR_RGB", none⟩ everyTier [unsignedOperand "red" 8 red, unsignedOperand "green" 8 green, unsignedOperand "blue" 8 blue]
      (0x04#8 ++ BitVec.ofInt 8 red ++ BitVec.ofInt 8 green ++ BitVec.ofInt 8 blue)) }) ∧
    (∀ alpha : Int, exec (.colorA alpha) s = .next { s with encOut := some (encoderRule s .gk
      ⟨"COLOR_A", none⟩ everyTier [unsignedOperand "alpha" 8 alpha]
      (0x10#8 ++ 0#16 ++ BitVec.ofInt 8 alpha)) }) ∧
    (∀ red green blue : Int, exec (.clearColorRgb red green blue) s = .next { s with encOut := some (encoderRule s .gk
      ⟨"CLEAR_COLOR_RGB", none⟩ everyTier [unsignedOperand "red" 8 red, unsignedOperand "green" 8 green, unsignedOperand "blue" 8 blue]
      (0x02#8 ++ BitVec.ofInt 8 red ++ BitVec.ofInt 8 green ++ BitVec.ofInt 8 blue)) }) ∧
    (∀ alpha : Int, exec (.clearColorA alpha) s = .next { s with encOut := some (encoderRule s .gk
      ⟨"CLEAR_COLOR_A", none⟩ everyTier [unsignedOperand "alpha" 8 alpha]
      (0x0F#8 ++ 0#16 ++ BitVec.ofInt 8 alpha)) }) ∧
    (∀ value : Int, exec (.clearStencil value) s = .next { s with encOut := some (encoderRule s .gk
      ⟨"CLEAR_STENCIL", none⟩ everyTier [unsignedOperand "s" 8 value]
      (0x11#8 ++ 0#16 ++ BitVec.ofInt 8 value)) }) ∧
    (∀ value : Int, exec (.clearTag value) s = .next { s with encOut := some (encoderRule s .gk
      ⟨"CLEAR_TAG", none⟩ everyTier [unsignedOperand "s" 8 value]
      (0x12#8 ++ 0#16 ++ BitVec.ofInt 8 value)) })

/-- R127, R128, R129, R130: the response of each rule, its word written out bit field by bit field from the rule; nothing else of the state changes. -/
def Obligations.TagPointAndLineWords : Prop :=
  ∀ s : State,
    (∀ value : Int, exec (.tag value) s = .next { s with encOut := some (encoderRule s .gk
      ⟨"TAG", none⟩ everyTier [unsignedOperand "s" 8 value]
      (0x03#8 ++ 0#16 ++ BitVec.ofInt 8 value)) }) ∧
    (∀ mask : Int, exec (.tagMask mask) s = .next { s with encOut := some (encoderRule s .gk
      ⟨"TAG_MASK", none⟩ everyTier [unsignedOperand "mask" 1 mask]
      (0x14#8 ++ 0#23 ++ BitVec.ofInt 1 mask)) }) ∧
    (∀ size : Int, exec (.pointSize size) s = .next { s with encOut := some (encoderRule s .doc
      ⟨"POINT_SIZE", none⟩ everyTier [unsignedOperand "size" 13 size]
      (0x0D#8 ++ 0#11 ++ BitVec.ofInt 13 size)) }) ∧
    (∀ width : Int, exec (.lineWidth width) s = .next { s with encOut := some (encoderRule s .gk
      ⟨"LINE_WIDTH", none⟩ everyTier [unsignedOperand "width" 12 width]
      (0x0E#8 ++ 0#12 ++ BitVec.ofInt 12 width)) })

/-- R131, R132, R133, R134: the response of each rule, its word written out bit field by bit field from the rule; nothing else of the state changes. -/
def Obligations.AlphaAndStencilWords : Prop :=
  ∀ s : State,
    (∀ func ref : Int, exec (.alphaFunc func ref) s = .next { s with encOut := some (encoderRule s .gk
      ⟨"ALPHA_FUNC", none⟩ everyTier [unsignedOperand "func" 3 func, unsignedOperand "ref" 8 ref]
      (0x09#8 ++ 0#13 ++ BitVec.ofInt 3 func ++ BitVec.ofInt 8 ref)) }) ∧
    (∀ func ref mask : Int, exec (.stencilFunc func ref mask) s = .next { s with encOut := some (encoderRule s .gk
      ⟨"STENCIL_FUNC", none⟩ everyTier [unsignedOperand "func" 4 func, unsignedOperand "ref" 8 ref, unsignedOperand "mask" 8 mask]
      (0x0A#8 ++ 0#4 ++ BitVec.ofInt 4 func ++ BitVec.ofInt 8 ref ++ BitVec.ofInt 8 mask)) }) ∧
    (∀ sfail spass : Int, exec (.stencilOp sfail spass) s = .next { s with encOut := some (encoderRule s .gk
      ⟨"STENCIL_OP", none⟩ everyTier [unsignedOperand "sfail" 3 sfail, unsignedOperand "spass" 3 spass]
      (0x0C#8 ++ 0#18 ++ BitVec.ofInt 3 sfail ++ BitVec.ofInt 3 spass)) }) ∧
    (∀ mask : Int, exec (.stencilMask mask) s = .next { s with encOut := some (encoderRule s .gk
      ⟨"STENCIL_MASK", none⟩ everyTier [unsignedOperand "mask" 8 mask]
      (0x13#8 ++ 0#16 ++ BitVec.ofInt 8 mask)) })

/-- R135, R136, R137, R138: the response of each rule, its word written out bit field by bit field from the rule; nothing else of the state changes. -/
def Obligations.BlendMaskAndScissorWords : Prop :=
  ∀ s : State,
    (∀ src dst : Int, exec (.blendFunc src dst) s = .next { s with encOut := some (encoderRule s .gk
      ⟨"BLEND_FUNC", none⟩ everyTier [unsignedOperand "src" 3 src, unsignedOperand "dst" 3 dst]
      (0x0B#8 ++ 0#18 ++ BitVec.ofInt 3 src ++ BitVec.ofInt 3 dst)) }) ∧
    (∀ r g b a : Int, exec (.colorMask r g b a) s = .next { s with encOut := some (encoderRule s .gk
      ⟨"COLOR_MASK", none⟩ everyTier [unsignedOperand "r" 1 r, unsignedOperand "g" 1 g, unsignedOperand "b" 1 b, unsignedOperand "a" 1 a]
      (0x20#8 ++ 0#20 ++ BitVec.ofInt 1 r ++ BitVec.ofInt 1 g ++ BitVec.ofInt 1 b ++ BitVec.ofInt 1 a)) }) ∧
    (∀ x y : Int, exec (.scissorXy x y) s = .next { s with encOut := some (encoderRule s .gk
      ⟨"SCISSOR_XY", none⟩ everyTier [unsignedOperand "x" 11 x, unsignedOperand "y" 11 y]
      (0x1B#8 ++ 0#2 ++ BitVec.ofInt 11 x ++ BitVec.ofInt 11 y)) }) ∧
    (∀ width height : Int, exec (.scissorSize width height) s = .next { s with encOut := some (encoderRule s .gk
      ⟨"SCISSOR_SIZE", none⟩ everyTier [unsignedOperand "width" 12 width, unsignedOperand "height" 12 height]
      (0x1C#8 ++ BitVec.ofInt 12 width ++ BitVec.ofInt 12 height)) })

/-- R161, R163, R164, R165: the response of each rule, its word written out bit field by bit field from the rule; nothing else of the state changes. -/
def Obligations.BitmapLayoutHandleAndSizeWords : Prop :=
  ∀ s : State,
    (∀ fmt linestride height : Int, exec (.bitmapLayout fmt linestride height) s = .next { s with encOut := some (encoderRule s .doc
      ⟨"BITMAP_LAYOUT", none⟩ everyTier [unsignedOperand "format" 5 fmt, unsignedOperand "linestride" 10 linestride, unsignedOperand "height" 9 height]
      (0x07#8 ++ BitVec.ofInt 5 fmt ++ BitVec.ofInt 10 linestride ++ BitVec.ofInt 9 height)) }) ∧
    (∀ handle : Int, exec (.bitmapHandle handle) s = .next { s with encOut := some (encoderRule s .gk
      ⟨"BITMAP_HANDLE", none⟩ everyTier [unsignedOperand "handle" 5 handle]
      (0x05#8 ++ 0#19 ++ BitVec.ofInt 5 handle)) }) ∧
    (∀ cellIndex : Int, exec (.cell cellIndex) s = .next { s with encOut := some (encoderRule s .gk
      ⟨"CELL", none⟩ everyTier [unsignedOperand "cell" 7 cellIndex]
      (0x06#8 ++ 0#17 ++ BitVec.ofInt 7 cellIndex)) }) ∧
    (∀ filter wrapx wrapy width height : Int, exec (.bitmapSize filter wrapx wrapy width height) s = .next { s with encOut := some (encoderRule s .gk
      ⟨"BITMAP_SIZE", none⟩ everyTier [unsignedOperand "filter" 1 filter, unsignedOperand "wrapx" 1 wrapx, unsignedOperand "wrapy" 1 wrapy, unsignedOperand "width" 9 width, unsignedOperand "height" 9 height]
      (0x08#8 ++ 0#3 ++ BitVec.ofInt 1 filter ++ BitVec.ofInt 1 wrapx ++ BitVec.ofInt 1 wrapy ++ BitVec.ofInt 9 width ++ BitVec.ofInt 9 height)) })

/-- R162: the response of each rule, its word written out bit field by bit field from the rule; nothing else of the state changes. -/
def Obligations.BitmapSourceWordAtEitherWidth : Prop :=
  ∀ s : State,
    (∀ addr : Int, exec (.bitmapSource addr) s = .next { s with encOut := some (encoderRule s .gk
      ⟨"BITMAP_SOURCE", none⟩ everyTier [unsignedOperand "addr" s.params.bitmapSourceWidth.bits addr]
      (match s.params.bitmapSourceWidth with | .w22 => 0x01#8 ++ 0#2 ++ BitVec.ofInt 22 addr | .w24 => 0x01#8 ++ BitVec.ofInt 24 addr)) })

/-- R166, R167, R168: the response of each rule, its word written out bit field by bit field from the rule; nothing else of the state changes. -/
def Obligations.BitmapHighBitsAndPaletteWords : Prop :=
  ∀ s : State,
    (∀ linestride height : Int, exec (.bitmapLayoutH linestride height) s = .next { s with encOut := some (encoderRule s .gk
      ⟨"BITMAP_LAYOUT_H", none⟩ everyTier [unsignedOperand "linestride" 2 linestride, unsignedOperand "height" 2 height]
      (0x28#8 ++ 0#20 ++ BitVec.ofInt 2 linestride ++ BitVec.ofInt 2 height)) }) ∧
    (∀ width height : Int, exec (.bitmapSizeH width height) s = .next { s with encOut := some (encoderRule s .gk
      ⟨"BITMAP_SIZE_H", none⟩ everyTier [unsignedOperand "width" 2 width, unsignedOperand "height" 2 height]
      (0x29#8 ++ 0#20 ++ BitVec.ofInt 2 width ++ BitVec.ofInt 2 height)) }) ∧
    (∀ addr : Int, exec (.paletteSource addr) s = .next { s with encOut := some (encoderRule s .gk
      ⟨"PALETTE_SOURCE", none⟩ everyTier [unsignedOperand "addr" 22 addr]
      (0x2A#8 ++ 0#2 ++ BitVec.ofInt 22 addr)) })

/-- R170, R172, R175, R177: the response of each rule, its word written out bit field by bit field from the rule; nothing else of the state changes. That an OperandRange names the mnemonic without its variant is the model's reading of R301 and the vectors (DEDUCED, log entry 17), so the statement is derived. -/
def Obligations.TierTwoTransformWordsAtEitherWidth : Prop :=
  ∀ s : State,
    (∀ a : Int, exec (.bitmapTransformAG2 a) s = .next { s with encOut := some (encoderRule s .gk
      ⟨"BITMAP_TRANSFORM_A", some .g2⟩ tierTwoOnly [signedOperand "a" s.params.xformWidthA.bits a]
      (match s.params.xformWidthA with | .w17 => 0x15#8 ++ 0#7 ++ BitVec.ofInt 17 a | .w24 => 0x15#8 ++ BitVec.ofInt 24 a)) }) ∧
    (∀ b : Int, exec (.bitmapTransformBG2 b) s = .next { s with encOut := some (encoderRule s .gk
      ⟨"BITMAP_TRANSFORM_B", some .g2⟩ tierTwoOnly [signedOperand "b" s.params.xformWidthB.bits b]
      (match s.params.xformWidthB with | .w17 => 0x16#8 ++ 0#7 ++ BitVec.ofInt 17 b | .w24 => 0x16#8 ++ BitVec.ofInt 24 b)) }) ∧
    (∀ d : Int, exec (.bitmapTransformDG2 d) s = .next { s with encOut := some (encoderRule s .gk
      ⟨"BITMAP_TRANSFORM_D", some .g2⟩ tierTwoOnly [signedOperand "d" s.params.xformWidthD.bits d]
      (match s.params.xformWidthD with | .w17 => 0x18#8 ++ 0#7 ++ BitVec.ofInt 17 d | .w24 => 0x18#8 ++ BitVec.ofInt 24 d)) }) ∧
    (∀ e : Int, exec (.bitmapTransformEG2 e) s = .next { s with encOut := some (encoderRule s .gk
      ⟨"BITMAP_TRANSFORM_E", some .g2⟩ tierTwoOnly [signedOperand "e" s.params.xformWidthE.bits e]
      (match s.params.xformWidthE with | .w17 => 0x19#8 ++ 0#7 ++ BitVec.ofInt 17 e | .w24 => 0x19#8 ++ BitVec.ofInt 24 e)) })

/-- R171, R173, R176, R178: the response of each rule, its word written out bit field by bit field from the rule; nothing else of the state changes. That an OperandRange names the mnemonic without its variant is the model's reading of R301 and the vectors (DEDUCED, log entry 17), so the statement is derived. -/
def Obligations.TierThreeTransformWords : Prop :=
  ∀ s : State,
    (∀ p v : Int, exec (.bitmapTransformAG3 p v) s = .next { s with encOut := some (encoderRule s .gk
      ⟨"BITMAP_TRANSFORM_A", some .g3⟩ tierThreeUp [unsignedOperand "p" 1 p, signedOperand "v" 17 v]
      (0x15#8 ++ 0#6 ++ BitVec.ofInt 1 p ++ BitVec.ofInt 17 v)) }) ∧
    (∀ p v : Int, exec (.bitmapTransformBG3 p v) s = .next { s with encOut := some (encoderRule s .gk
      ⟨"BITMAP_TRANSFORM_B", some .g3⟩ tierThreeUp [unsignedOperand "p" 1 p, signedOperand "v" 17 v]
      (0x16#8 ++ 0#6 ++ BitVec.ofInt 1 p ++ BitVec.ofInt 17 v)) }) ∧
    (∀ p v : Int, exec (.bitmapTransformDG3 p v) s = .next { s with encOut := some (encoderRule s .gk
      ⟨"BITMAP_TRANSFORM_D", some .g3⟩ tierThreeUp [unsignedOperand "p" 1 p, signedOperand "v" 17 v]
      (0x18#8 ++ 0#6 ++ BitVec.ofInt 1 p ++ BitVec.ofInt 17 v)) }) ∧
    (∀ p v : Int, exec (.bitmapTransformEG3 p v) s = .next { s with encOut := some (encoderRule s .gk
      ⟨"BITMAP_TRANSFORM_E", some .g3⟩ tierThreeUp [unsignedOperand "p" 1 p, signedOperand "v" 17 v]
      (0x19#8 ++ 0#6 ++ BitVec.ofInt 1 p ++ BitVec.ofInt 17 v)) })

/-- R174, R179: the response of each rule, its word written out bit field by bit field from the rule; nothing else of the state changes. -/
def Obligations.TranslationTransformWords : Prop :=
  ∀ s : State,
    (∀ c : Int, exec (.bitmapTransformC c) s = .next { s with encOut := some (encoderRule s .gk
      ⟨"BITMAP_TRANSFORM_C", none⟩ everyTier [signedOperand "c" 24 c]
      (0x17#8 ++ BitVec.ofInt 24 c)) }) ∧
    (∀ f : Int, exec (.bitmapTransformF f) s = .next { s with encOut := some (encoderRule s .gk
      ⟨"BITMAP_TRANSFORM_F", none⟩ everyTier [signedOperand "f" 24 f]
      (0x1A#8 ++ BitVec.ofInt 24 f)) })

/-- R180, R181: the response of each rule, its word written out bit field by bit field from the rule; nothing else of the state changes. -/
def Obligations.ExtendedFormatAndSwizzleWords : Prop :=
  ∀ s : State,
    (∀ fmt : Int, exec (.bitmapExtFormat fmt) s = .next { s with encOut := some (encoderRule s .gk
      ⟨"BITMAP_EXT_FORMAT", none⟩ tierThreeUp [unsignedOperand "format" 16 fmt]
      (0x2E#8 ++ 0#8 ++ BitVec.ofInt 16 fmt)) }) ∧
    (∀ r g b a : Int, exec (.bitmapSwizzle r g b a) s = .next { s with encOut := some (encoderRule s .gk
      ⟨"BITMAP_SWIZZLE", none⟩ tierThreeUp [unsignedOperand "r" 3 r, unsignedOperand "g" 3 g, unsignedOperand "b" 3 b, unsignedOperand "a" 3 a]
      (0x2F#8 ++ 0#12 ++ BitVec.ofInt 3 r ++ BitVec.ofInt 3 g ++ BitVec.ofInt 3 b ++ BitVec.ofInt 3 a)) })

/-- R201, R202, R203, R204, R205, R206, R207, R208, R209: the response of each rule, its word written out bit field by bit field from the rule; nothing else of the state changes. -/
def Obligations.FrameAndFlowWords : Prop :=
  ∀ s : State,
    (exec (.display) s = .next { s with encOut := some (encoderRule s .gk
      ⟨"DISPLAY", none⟩ everyTier []
      (0x00#8 ++ 0#24)) }) ∧
    (∀ cBit sBit tBit : Int, exec (.clear cBit sBit tBit) s = .next { s with encOut := some (encoderRule s .gk
      ⟨"CLEAR", none⟩ everyTier [unsignedOperand "c" 1 cBit, unsignedOperand "s" 1 sBit, unsignedOperand "t" 1 tBit]
      (0x26#8 ++ 0#21 ++ BitVec.ofInt 1 cBit ++ BitVec.ofInt 1 sBit ++ BitVec.ofInt 1 tBit)) }) ∧
    (exec (.saveContext) s = .next { s with encOut := some (encoderRule s .gk
      ⟨"SAVE_CONTEXT", none⟩ everyTier []
      (0x22#8 ++ 0#24)) }) ∧
    (exec (.restoreContext) s = .next { s with encOut := some (encoderRule s .gk
      ⟨"RESTORE_CONTEXT", none⟩ everyTier []
      (0x23#8 ++ 0#24)) }) ∧
    (∀ dest : Int, exec (.call dest) s = .next { s with encOut := some (encoderRule s .gk
      ⟨"CALL", none⟩ everyTier [unsignedOperand "dest" 16 dest]
      (0x1D#8 ++ 0#8 ++ BitVec.ofInt 16 dest)) }) ∧
    (∀ dest : Int, exec (.jump dest) s = .next { s with encOut := some (encoderRule s .gk
      ⟨"JUMP", none⟩ everyTier [unsignedOperand "dest" 16 dest]
      (0x1E#8 ++ 0#8 ++ BitVec.ofInt 16 dest)) }) ∧
    (exec (.ret) s = .next { s with encOut := some (encoderRule s .gk
      ⟨"RETURN", none⟩ everyTier []
      (0x24#8 ++ 0#24)) }) ∧
    (∀ which : Int, exec (.macroReg which) s = .next { s with encOut := some (encoderRule s .gk
      ⟨"MACRO", none⟩ everyTier [unsignedOperand "m" 1 which]
      (0x25#8 ++ 0#23 ++ BitVec.ofInt 1 which)) }) ∧
    (exec (.nop) s = .next { s with encOut := some (encoderRule s .gk
      ⟨"NOP", none⟩ everyTier []
      (0x2D#8 ++ 0#24)) })

/-- R233, R234, R235, R236, R238: the response of each rule, its byte written out from the rule; nothing else of the state changes (44_host_commands.md R231). -/
def Obligations.LifecycleFrames : Prop :=
  ∀ s : State,
    (∀ param : Int, exec (.hostActive param) s = .next { s with hostOut := some (framerRule s "ACTIVE"
      everyTier 0x00#8 param) }) ∧
    (∀ param : Int, exec (.hostStandby param) s = .next { s with hostOut := some (framerRule s "STANDBY"
      everyTier 0x41#8 param) }) ∧
    (∀ param : Int, exec (.hostSleep param) s = .next { s with hostOut := some (framerRule s "SLEEP"
      everyTier 0x42#8 param) }) ∧
    (∀ param : Int, exec (.hostClkext param) s = .next { s with hostOut := some (framerRule s "CLKEXT"
      everyTier 0x44#8 param) }) ∧
    (∀ param : Int, exec (.hostPwrdown param) s = .next { s with hostOut := some (framerRule s "PWRDOWN"
      everyTier 0x50#8 param) })

/-- R237: the response of each rule, its byte written out from the rule; nothing else of the state changes (44_host_commands.md R231). -/
def Obligations.ClkintFrameBelowTierFour : Prop :=
  ∀ s : State,
    (∀ param : Int, exec (.hostClkint param) s = .next { s with hostOut := some (framerRule s "CLKINT"
      ⟨2, some 3⟩ 0x48#8 param) })

/-- R239, R240, R241, R242: the response of each rule, its byte written out from the rule; nothing else of the state changes (44_host_commands.md R231). -/
def Obligations.ParameterAndResetFrames : Prop :=
  ∀ s : State,
    (∀ param : Int, exec (.hostClksel param) s = .next { s with hostOut := some (framerRule s "CLKSEL"
      everyTier 0x61#8 param) }) ∧
    (∀ param : Int, exec (.hostRstPulse param) s = .next { s with hostOut := some (framerRule s "RST_PULSE"
      everyTier 0x68#8 param) }) ∧
    (∀ param : Int, exec (.hostCorerst param) s = .next { s with hostOut := some (framerRule s "CORERST"
      everyTier 0x68#8 param) }) ∧
    (∀ param : Int, exec (.hostPindrive param) s = .next { s with hostOut := some (framerRule s "PINDRIVE"
      everyTier 0x70#8 param) }) ∧
    (∀ param : Int, exec (.hostPinPdState param) s = .next { s with hostOut := some (framerRule s "PIN_PD_STATE"
      everyTier 0x71#8 param) })

/-- Completion of all 54 display-list constructors: where R65 gives none of its refusals and errors, the word is driven and nothing else changes. Witnesses for every row: test_witness_words_tier2, test_witness_words_tier3. -/
def Obligations.VisibleInstructionsDriveTheirWord : Prop :=
  ∀ (s : State) (i : Instr) (op : DlOp), i.item = .dl op → s.configured = true →
    ((opsel s.params op).src = .gk → s.params.gkTableEnabled = true) →
    tierVisible (opsel s.params op).tiers s.tier = true →
    (s.params.strictRange = true → ∀ q ∈ i.args.zip (opsel s.params op).fields, inRange q.1 q.2 = true) →
    exec i s = .next { s with encOut := some (.ok (encodeWord s.params op i.args)) }

/-- Completion of all 11 host constructors: where R231 gives none of its refusals and errors, the frame is driven and nothing else changes. Witnesses for every command: test_witness_frames_tier2, test_witness_frames_strict. -/
def Obligations.VisibleHostCommandsDriveTheirFrame : Prop :=
  ∀ (s : State) (i : Instr) (c : HostCmd) (param : Int), i.item = .host c → i.args = [param] →
    s.configured = true → s.params.gkTableEnabled = true → tierVisible (hostRow c).tiers s.tier = true →
    (s.params.strictRange = true → 0 ≤ param ∧ param < 256) →
    exec i s = .next { s with hostOut := some (.ok ⟨(hostRow c).code, BitVec.ofInt 8 param⟩) }

/-- R331. The queue is the model's own (log entry 1). Witness: test_witness_unconfigured. -/
def Obligations.UnconfiguredBlockRefusesEveryRequest : Prop :=
  State.reset.configured = false ∧
  ∀ (s : State) (rest : List Request), s.configured = false →
    (∀ m v args, step { s with requests := .enc m v args :: rest } =
      .next { s with requests := rest, encOut := some (.refused .unconfigured) }) ∧
    (∀ cmd param, step { s with requests := .host cmd param :: rest } =
      .next { s with requests := rest, hostOut := some (.refused .unconfigured) }) ∧
    (∀ name, step { s with requests := .map name :: rest } =
      .next { s with requests := rest, mapOut := some (.refused .unconfigured) }) ∧
    (∀ addr, step { s with requests := .region addr :: rest } =
      .next { s with requests := rest, mapOut := some (.refused .unconfigured) }) ∧
    (∀ v : Int, v < 2 → ∃ t, step { s with requests := .rst (.int v) :: rest } = .next t ∧ t.configured = false) ∧
    (∀ v : Int, 2 ≤ v → ∃ t, step { s with requests := .rst (.int v) :: rest } = .next t ∧ t.configured = true)

/-- R330. What the configuration port holds in the other cases is not stated here: an illegal tier on an unconfigured block is IllegalTierIsRefused, the acknowledgement of a legal one is the model's choice (log entry 13). Witness of the last clause: test_witness_reset_same. -/
def Obligations.ResetEventConfiguresOrIsRefused : Prop :=
  ∀ (s : State) (rest : List Request) (v : Int), ∃ t,
    step { s with requests := .rst (.int v) :: rest } = .next t ∧
    t.params = s.params ∧ t.requests = rest ∧
    t.encOut = s.encOut ∧ t.hostOut = s.hostOut ∧ t.mapOut = s.mapOut ∧
    (if s.configured = true ∧ normTier v ≠ some s.tier then
      t.cfgOut = some (.refused .tierChange) ∧ t.tier = s.tier ∧ t.configured = true
    else if v < 2 then t.configured = false
    else t.configured = true ∧ t.tier = (if v = 2 then .t2 else if v = 3 then .t3 else .t4)) ∧
    (s.configured = true → normTier v = some s.tier → t.tier = s.tier ∧ t.configured = s.configured)

/-- R21: the invariant every step and every run keeps, with the refusals of an attempt to change TIER. Witnesses: test_witness_tier_kept, test_witness_tier_run, test_witness_non_rst, test_witness_tier_change. -/
def Obligations.TierIsFixedAfterConfiguration : Prop :=
  (normTier 2 = some .t2 ∧ normTier 3 = some .t3 ∧ (∀ v : Int, 4 ≤ v → normTier v = some .t4) ∧
    ∀ v : Int, v < 2 → normTier v = none) ∧
  (∀ s t : State, step s = .next t → TierKept s t) ∧
  (∀ (k : Nat) (s t : State), Host.Core.run Sys2Proof.core k s = .next t → TierKept s t) ∧
  (∀ (s t : State) (r : Request) (rest : List Request), s.requests = r :: rest → (∀ o, r ≠ .rst o) →
    step s = .next t → t.tier = s.tier ∧ t.configured = s.configured) ∧
  (∀ (s : State) (rest : List Request) (v : Int), s.configured = true → normTier v ≠ some s.tier →
    step { s with requests := .rst (.int v) :: rest } =
      .next { s with requests := rest, cfgOut := some (.refused .tierChange) })

/-- R303 gives the refusal; that an attempt to write TIER is a request of its own is the model's reading (log entry 14). -/
def Obligations.OtherWritesOfTierAreRefused : Prop :=
  ∀ (s : State) (rest : List Request) (v : Int),
    step { s with requests := .writeTier (.int v) :: rest } = .next { s with
      requests := rest
      cfgOut := some (.refused (if s.configured = true then .tierChange else .unconfigured)) }

/-- The invariant of the four ports over every step (that a port keeps its last response is the model's choice, log entry 2). Witness: test_witness_ports_sound_step. -/
def Obligations.PortsHoldOnlyAllowedResponses : Prop :=
  ∀ s t : State, PortsSound s → step s = .next t → PortsSound t

/-- The base case of PortsHoldOnlyAllowedResponses. That no port holds a response at power-on is the model's choice (log entry 2): R331 and R332 say of power-on only that the block is not configured and keeps no error status. -/
def Obligations.PowerOnPortsAreSound : Prop :=
  PortsSound State.reset

/-- The per-instruction meanings refine the port algorithms of R65, R231 (the queue and the idle step are the model's choice: log entries 1, 16). Witnesses: test_witness_idle, test_witness_serve. -/
def Obligations.StepServesTheOldestRequest : Prop :=
  (∀ s : State, s.requests = [] → step s = .next s) ∧
  (∀ (s : State) (r : Request) (rest : List Request), s.requests = r :: rest →
    step s = .next (State.serve { s with requests := rest } r))

/-- How a run reaches the meanings: this block fetches nothing (R27), its program is the requests (log entry 1). Witness: test_witness_step_runs. -/
def Obligations.StepRunsTheNamedInstruction : Prop :=
  ∀ (s : State) (i : Instr) (rest : List Request), s.requests = requestOf s.params i :: rest →
    step s = exec i { s with requests := rest }

/-- The host's fetch hook runs exactly the decoded instruction. The hook is the model's choice, and so are the tier and the parameters decodeTableWord reads a word at: tier 3 and Params.specValues, whatever the state's own are (log entries 10, 11 and 30). Witness: test_witness_fetch. -/
def Obligations.FetchedTableWordRunsNext : Prop :=
  ∀ (s : State) (nbits w : Nat) (i : Instr), decodeTableWord nbits w = some i →
    step (s.withFetchWord nbits w) =
      exec i { (if s.configured then s else s.configure .t3) with requests := s.requests }

/-- Sanity of the decoders on words written out by hand (the frame decoder is the model's own, log entry 12). -/
def Obligations.SpecEncodingsDecode : Prop :=
  decodeWord vectorParams .t2 0x1F000009#32 = .instr (.beginPrim 9) ∧
  decodeWord vectorParams .t2 0x4005000A#32 = .instr (.vertex2f 10 10) ∧
  decodeWord vectorParams .t2 0x8C864000#32 = .instr (.vertex2ii 100 100 0 0) ∧
  decodeWord vectorParams .t2 0x073B20C8#32 = .instr (.bitmapLayout 7 400 200) ∧
  decodeWord vectorParams .t2 0x15000100#32 = .instr (.bitmapTransformAG2 256) ∧
  decodeWord vectorParams .t3 0x15020100#32 = .instr (.bitmapTransformAG3 1 256) ∧
  decodeFrame .t2 ⟨0x61#8, 0x46#8⟩ = .instr (.hostClksel 0x46) ∧
  decodeFrame .t3 ⟨0x48#8, 0x00#8⟩ = .instr (.hostClkint 0) ∧
  decodeFrame .t4 ⟨0x48#8, 0x00#8⟩ = .notEncoderOutput .unknownHostByte

/-- R72 with the signed view of R77, an inference the spec marks as its own. Witnesses: test_witness_residues, test_witness_fit, test_witness_signed_view. -/
def Obligations.DecodeRecoversResiduesOfOperands : Prop :=
  ∀ (p : Params) (t : Tier) (op : DlOp) (args : List Int), tierVisible (opsel p op).tiers t = true →
    args.length = (opsel p op).fields.length →
    decodeWord p t (encodeWord p op args) =
      .instr (instrOfOp op ((args.zip (opsel p op).fields).map fun q => q.1 % 2 ^ q.2.width)) ∧
    (argsFit args (opsel p op).fields = true → decodeWord p t (encodeWord p op args) = .instr (instrOfOp op args)) ∧
    ((∀ q ∈ args.zip (opsel p op).fields,
        (if q.2.signed then -(2 ^ (q.2.width - 1)) ≤ q.1 ∧ q.1 < 2 ^ (q.2.width - 1)
         else 0 ≤ q.1 ∧ q.1 < 2 ^ q.2.width)) →
      signedArgs p op (encodeWord p op args) = args)

/-- Decode and encode agree on every constructor and every operand value the encoding admits (the byte order is R45). The model's choices it rests on: that a channel's bytes are read from the front and the bytes behind the first word or frame are left over (decodeBytes, log entry 28), the frame decoder, and that byte 0x68 is read as RST_PULSE, the first of its two names (both log entry 12). Witnesses: test_witness_bytes, test_witness_bytes_corerst. -/
def Obligations.EncodedBytesDecodeBack : Prop :=
  ∀ (p : Params) (t : Tier) (i : Instr) (rest : List Byte), i.wellFormed p = true →
    tierVisible (instrTiers p i) t = true →
    ((∀ v, i ≠ .hostCorerst v) →
      decodeBytes p t (packetChannel (encode p i)) (packetBytes (encode p i) ++ rest) = (.instr i, rest)) ∧
    (∀ v, i = .hostCorerst v →
      decodeBytes p t (packetChannel (encode p i)) (packetBytes (encode p i) ++ rest) = (.instr (.hostRstPulse v), rest))

/-- The other direction of the round trip: no bit of a word is dropped by the decoder of R71. The second clause is about decodeFrame, the model's own decoder of frames (DESIGN CHOICE, log entry 12): R71 and R72 define none. Witnesses: test_witness_decoded_word, test_witness_decoded_frame. -/
def Obligations.DecodedInstructionEncodesBack : Prop :=
  (∀ (p : Params) (t : Tier) (w : Word) (i : Instr), decodeWord p t w = .instr i →
    i.wellFormed p = true ∧ tierVisible (instrTiers p i) t = true ∧ encode p i = .word w) ∧
  (∀ (p : Params) (t : Tier) (f : Frame) (i : Instr), decodeFrame t f = .instr i →
    i.wellFormed p = true ∧ tierVisible (instrTiers p i) t = true ∧ encode p i = .frame f)

/-- R70: the three classes, the encoder and the decoder agree on which words are output. Witness of the last clause: test_witness_emitted. -/
def Obligations.ReservedWordsAreNeverEmitted : Prop :=
  (∀ (p : Params) (t : Tier) (w : Word),
    (ReservedWord p t w ↔ ¬ ∃ op args, tierVisible (opsel p op).tiers t = true ∧
      args.length = (opsel p op).fields.length ∧ encodeWord p op args = w) ∧
    (ReservedWord p t w ↔ ∃ reason, decodeWord p t w = .notEncoderOutput reason)) ∧
  (∀ (s t : State) (i : Instr) (op : DlOp) (w : Word), i.item = .dl op → exec i s = .next t →
    t.encOut = some (.ok w) → ¬ ReservedWord t.params t.tier w)

/-- R66, an inference the spec marks as its own, for every width the parameters allow. Witnesses: test_witness_args_length, test_witness_perm. -/
def Obligations.FieldsNeverOverlap : Prop :=
  ∀ (p : Params) (op : DlOp) (args : List Int), args.length = (opsel p op).fields.length →
    ((opsel p op).fields.Pairwise fun f g => fieldMask f &&& fieldMask g = 0#32) ∧
    (∀ f ∈ (opsel p op).fields, fieldMask f &&& headerMask (opsel p op) = 0#32) ∧
    (encodeWord p op args).toNat = (matchWord (opsel p op)).toNat +
      ((args.zip (opsel p op).fields).map fun q => field q.1 q.2.width * 2 ^ q.2.offset).sum ∧
    (∀ l : List (Int × FieldDesc), l.Perm (args.zip (opsel p op).fields) →
      pack (matchWord (opsel p op)) l = encodeWord p op args)

/-- R67, an inference the spec marks as its own. Witness: test_witness_args_length. -/
def Obligations.UnusedBitsAreZeroAndFieldsExact : Prop :=
  ∀ (p : Params) (op : DlOp) (args : List Int), args.length = (opsel p op).fields.length →
    encodeWord p op args &&& headerMask (opsel p op) = matchWord (opsel p op) ∧
    encodeWord p op args &&& ~~~(usedBits (opsel p op)) = 0#32 ∧
    (∀ q ∈ args.zip (opsel p op).fields, fieldBits (encodeWord p op args) q.2 = field q.1 q.2.width)

/-- R73, laws 2 and 3, an inference the spec marks as its own. Witnesses: test_witness_residue_equal, test_witness_set. -/
def Obligations.WordDependsOnResiduesAlone : Prop :=
  ∀ (p : Params) (op : DlOp) (args : List Int), args.length = (opsel p op).fields.length →
    (∀ args' : List Int, args'.length = (opsel p op).fields.length →
      (∀ (k : Nat) (f : FieldDesc), (opsel p op).fields[k]? = some f →
        args.getD k 0 % 2 ^ f.width = args'.getD k 0 % 2 ^ f.width) →
      encodeWord p op args = encodeWord p op args') ∧
    (∀ (k : Nat) (f : FieldDesc) (v : Int), (opsel p op).fields[k]? = some f →
      encodeWord p op (args.set k v) &&& ~~~(fieldMask f) = encodeWord p op args &&& ~~~(fieldMask f))

/-- R69, an inference the spec marks as its own, for words of both formats. Witness: test_witness_one_row. -/
def Obligations.AtMostOneVisibleRowMatchesAWord : Prop :=
  ∀ (p : Params) (t : Tier) (w : Word) (a b : DlOp),
    tierVisible (opsel p a).tiers t = true → tierVisible (opsel p b).tiers t = true →
    w &&& headerMask (opsel p a) = matchWord (opsel p a) →
    w &&& headerMask (opsel p b) = matchWord (opsel p b) → a = b

/-- R302: the error, what it names, and that valid operands give the same output with and without it (that the item is named without its variant is DEDUCED, log entry 17). Witnesses: test_witness_lenient, test_witness_lenient_host, test_witness_range_word, test_witness_range_ok, test_witness_range_frame. -/
def Obligations.RangeErrorsOnlyUnderStrictRange : Prop :=
  (∀ (s t : State) (i : Instr), s.params.strictRange = false → exec i s = .next t →
    (∀ op e, i.item = .dl op → t.encOut = some (.err e) → errorCode e ≠ 5) ∧
    (∀ c e, i.item = .host c → t.hostOut = some (.err e) → errorCode e ≠ 5)) ∧
  (∀ (p : Params) (t : Tier) (op : DlOp) (args : List Int), p.strictRange = true → p.gkTableEnabled = true →
    tierVisible (opsel p op).tiers t = true → args.length = (opsel p op).fields.length →
    (∀ (k : Nat) (f : FieldDesc), (opsel p op).fields[k]? = some f → inRange (args.getD k 0) f = false →
      (∀ j g, j < k → (opsel p op).fields[j]? = some g → inRange (args.getD j 0) g = true) →
      wordResponse p t true op args = .err (.operandRange (opsel p op).mnemonic f.name (args.getD k 0))) ∧
    ((∀ (k : Nat) (f : FieldDesc), (opsel p op).fields[k]? = some f → inRange (args.getD k 0) f = true) →
      wordResponse p t true op args = wordResponse { p with strictRange := false } t true op args)) ∧
  (∀ (p : Params) (t : Tier) (c : HostCmd) (v : Int), p.strictRange = true → p.gkTableEnabled = true →
    tierVisible (hostRow c).tiers t = true →
    ((v < 0 ∨ 255 < v) → frameResponse p t true c v = .err (.operandRange (hostRow c).name "param" v)) ∧
    (0 ≤ v → v ≤ 255 → frameResponse p t true c v = frameResponse { p with strictRange := false } t true c v))

/-- R304 for the four requests a port answers (the relative order of NonInteger and an unknown name, and NonInteger of a host parameter, are read from R304's list: log entry 15; that an OperandRange names the mnemonic without its variant, for the G2 and G3 transforms too, is DEDUCED: log entry 17). -/
def Obligations.ChecksReportTheFirstInPriorityOrder : Prop :=
  ∀ s : State,
    (∀ m v args, (s.serve (.enc m v args)).encOut = some (
      if s.configured = false then .refused .unconfigured
      else if hasNonInteger (.enc m v args) = true then .refused .nonInteger
      else match dlOpNamed s.params m v with
        | none => .refused .unknownInstruction
        | some op =>
          let row := opsel s.params op
          let vs := args.filterMap Operand.int?
          firstThat (.ok (encodeWord s.params op vs))
            ([(!s.params.gkTableEnabled && row.src == .gk, .refused .notInSource),
              (!tierVisible row.tiers s.tier,
                .err (.generationMismatch .instruction ⟨m, v⟩ s.tier.toNat row.tiers.tmin row.tiers.tmax)),
              (args.length != row.fields.length, .refused .arity)] ++
             (vs.zip row.fields).map fun q =>
              (s.params.strictRange && !inRange q.1 q.2, .err (.operandRange m q.2.name q.1))))) ∧
    (∀ cmd param, (s.serve (.host cmd param)).hostOut = some (
      match (hostParam param).int?, hostCmdNamed cmd with
      | none, _ => if s.configured = false then .refused .unconfigured else .refused .nonInteger
      | some _, none => if s.configured = false then .refused .unconfigured else .refused .unknownHostCommand
      | some v, some c =>
        firstThat (.ok (encodeFrame c v))
          [(!s.configured, .refused .unconfigured),
           (!tierVisible (hostRow c).tiers s.tier,
             .err (.generationMismatch .hostCommand ⟨cmd, none⟩ s.tier.toNat (hostRow c).tiers.tmin
               (hostRow c).tiers.tmax)),
           (!s.params.gkTableEnabled, .refused .notInSource),
           (s.params.strictRange && (decide (v < 0) || decide (255 < v)),
             .err (.operandRange cmd "param" v))])) ∧
    (∀ name, (s.serve (.map name)).mapOut = some (
      match mapEntryNamed name with
      | none => if s.configured = false then .refused .unconfigured else .refused .unknownName
      | some e =>
        firstThat (.ok e.value)
          [(!s.configured, .refused .unconfigured),
           (!s.params.gkTableEnabled && e.src == .gk, .refused .notInSource),
           (!tierVisible e.tiers s.tier,
             .err (.generationMismatch (if e.kind = .constant then .constant else .registerOrWindow) ⟨name, none⟩
               s.tier.toNat e.tiers.tmin e.tiers.tmax))])) ∧
    (∀ addr, (s.serve (.region addr)).mapOut = some (
      match addr with
      | .nonInteger _ => if s.configured = false then .refused .unconfigured else .refused .nonInteger
      | .int a =>
        firstThat (.ok (.region (regionOf s.params a.toNat)))
          [(!s.configured, .refused .unconfigured),
           (decide (a < 0) || decide (2 ^ 24 ≤ a), .refused .addrRange)]))

/-- R303, row by row, and the refusal of a tier below 2 on a block that is not configured (93_implementation_defined.md U3), whose reason is the model's name (log entry 13). Witness: test_witness_refusal. -/
def Obligations.RefusalsAreThoseOfTheContract : Prop :=
  ∀ (s t : State) (r : Request) (rest : List Request) (reason : RefusalReason), s.requests = r :: rest →
    step s = .next t → (responseTo t r).refusal = some reason → MayRefuse s r reason

/-- R305: the last clause says that nothing a later request reads records the error. The exception for TIER is R25 and R330, which leave TIER unspecified after the refused rst with an illegal tier, a free value (log entries 6 and 13); that the other ports keep what they held is log entry 2. Witnesses: test_witness_rejected, test_witness_rejected_illegal. -/
def Obligations.ErrorOrRefusalLeavesNoTrace : Prop :=
  ∀ (s t : State) (r : Request) (rest : List Request), s.requests = r :: rest → step s = .next t →
    (responseTo t r).rejected = true →
    (t.tier = s.tier ∨ (s.configured = false ∧ ∃ v : Int, v < 2 ∧ r = .rst (.int v))) ∧
    t.configured = s.configured ∧ t.params = s.params ∧ t.requests = rest ∧ OtherPortsKept s t r ∧
    (∀ w, responseTo t r ≠ .enc (some (.ok w))) ∧ (∀ f, responseTo t r ≠ .host (some (.ok f))) ∧
    (∀ v, responseTo t r ≠ .map (some (.ok v))) ∧
    (∀ r', responseTo (t.serve r') r' = responseTo (s.serve r') r')

/-- R30: no hidden state. Witnesses: test_witness_same_response, test_witness_same_after_run. -/
def Obligations.ResponsesDependOnTierAndRequestAlone : Prop :=
  (∀ (s₁ s₂ t₁ t₂ : State) (r : Request) (rest₁ rest₂ : List Request), s₁.tier = s₂.tier →
    s₁.configured = s₂.configured → s₁.params = s₂.params → s₁.requests = r :: rest₁ → s₂.requests = r :: rest₂ →
    step s₁ = .next t₁ → step s₂ = .next t₂ → responseTo t₁ r = responseTo t₂ r) ∧
  (∀ (k : Nat) (s t : State) (r : Request), s.configured = true → Host.Core.run Sys2Proof.core k s = .next t →
    responseTo (t.serve r) r = responseTo (s.serve r) r)

/-- R49, R312 (callers are the one queue of log entries 1 and 23). Witness: test_witness_interleaving. -/
def Obligations.InterleavedRequestsGetTheirSoloResponse : Prop :=
  ∀ (s : State) (before after : List Request) (r : Request), s.configured = true →
    s.requests = before ++ r :: after → ∃ t u : State,
      Host.Core.run Sys2Proof.core (before.length + 1) s = .next t ∧ t.requests = after ∧
      step { s with requests := [r] } = .next u ∧ responseTo t r = responseTo u r

/-- An error or refusal is a response, after which the block serves the next request (log entry 3). -/
def Obligations.NoRequestStopsTheBlock : Prop :=
  (∀ s : State, StepCompletes s) ∧
  (∀ (k : Nat) (s : State), ∃ t : State, Host.Core.run Sys2Proof.core k s = .next t)

/-- R243. That a port keeps its word or frame after a request on the other port, which the last clause says, is the model's choice (log entry 2). Witnesses: test_witness_word_item, test_witness_host_item, test_witness_two_ports. -/
def Obligations.HostFramesAndWordsNeverMix : Prop :=
  (∀ (s : State) (i : Instr) (op : DlOp), i.item = .dl op →
    ∃ r : Response Word, exec i s = .next { s with encOut := some r }) ∧
  (∀ (s : State) (j : Instr) (c : HostCmd), j.item = .host c →
    ∃ r : Response Frame, exec j s = .next { s with hostOut := some r }) ∧
  (∀ (s a b ab ba : State) (i j : Instr) (op : DlOp) (c : HostCmd), i.item = .dl op → j.item = .host c →
    exec i s = .next a → exec j s = .next b → exec j a = .next ab → exec i b = .next ba →
    ab.encOut = a.encOut ∧ ab.hostOut = b.hostOut ∧ ba.hostOut = b.hostOut ∧ ba.encOut = a.encOut)

/-- The monotonicity law of R32, an inference the spec marks as its own. Witnesses: test_witness_tier_order, test_witness_monotone. -/
def Obligations.CapabilitiesAreKeptAtHigherTiers : Prop :=
  ∀ (p : Params) (t u : Tier), t.toNat ≤ u.toNat →
    (∀ op, tierVisible (opsel p op).tiers t = true → op ≠ .bitmapTransformAG2 → op ≠ .bitmapTransformBG2 →
      op ≠ .bitmapTransformDG2 → op ≠ .bitmapTransformEG2 → tierVisible (opsel p op).tiers u = true) ∧
    (∀ op, op = .bitmapTransformAG2 ∨ op = .bitmapTransformBG2 ∨ op = .bitmapTransformDG2 ∨ op = .bitmapTransformEG2 →
      (tierVisible (opsel p op).tiers t = true ↔ t = .t2)) ∧
    (∀ c, tierVisible (hostRow c).tiers t = true → c ≠ .clkint → tierVisible (hostRow c).tiers u = true) ∧
    (tierVisible (hostRow .clkint).tiers t = true ↔ t ≠ .t4) ∧
    (∀ name e, mapEntryNamed name = some e → tierVisible e.tiers t = true → tierVisible e.tiers u = true)

/-- The mux of R169 as the encoder port shows it (the variant of a request is log entry 27). Witnesses: test_witness_mux_g3, test_witness_mux_g2, test_witness_mux_c. -/
def Obligations.OneTransformVariantPerTier : Prop :=
  ∀ (s : State) (letter : String) (args : List Int), s.configured = true → s.params.gkTableEnabled = true →
    (letter ∈ ["A", "B", "D", "E"] →
      (s.tier = .t2 → s.serve (.enc ("BITMAP_TRANSFORM_" ++ letter) (some .g3) (args.map .int)) =
        { s with encOut := some (.err (.generationMismatch .instruction
            ⟨"BITMAP_TRANSFORM_" ++ letter, some .g3⟩ 2 3 none)) }) ∧
      (s.tier ≠ .t2 → s.serve (.enc ("BITMAP_TRANSFORM_" ++ letter) (some .g2) (args.map .int)) =
        { s with encOut := some (.err (.generationMismatch .instruction
            ⟨"BITMAP_TRANSFORM_" ++ letter, some .g2⟩ s.tier.toNat 2 (some 2))) }) ∧
      s.serve (.enc ("BITMAP_TRANSFORM_" ++ letter) none (args.map .int)) =
        { s with encOut := some (.refused .unknownInstruction) }) ∧
    (letter ∈ ["C", "F"] → ∀ v, s.serve (.enc ("BITMAP_TRANSFORM_" ++ letter) (some v) (args.map .int)) =
      { s with encOut := some (.refused .unknownInstruction) })

/-- R78. Witnesses: test_witness_six, test_witness_not_six. -/
def Obligations.OnlySixRowsWithoutGeneralKnowledge : Prop :=
  ∀ (s : State) (i : Instr) (op : DlOp), i.item = .dl op → s.configured = true → s.params.gkTableEnabled = false →
    (op ∈ [DlOp.beginPrim, .endPrim, .colorRgb, .pointSize, .bitmapLayout, .vertex2f] →
      exec i s = .next { s with encOut := some (wordResponse { s.params with gkTableEnabled := true } s.tier true op
        i.args) }) ∧
    (op ∉ [DlOp.beginPrim, .endPrim, .colorRgb, .pointSize, .bitmapLayout, .vertex2f] →
      exec i s = .next { s with encOut := some (.refused .notInSource) })

/-- R261. Witness: test_witness_gk_off. -/
def Obligations.LookupsWithoutGeneralKnowledge : Prop :=
  (∀ (s : State) (rest : List Request) (name : String),
    step { s with requests := .map name :: rest } = .next { s with requests := rest, mapOut := some (
      if s.configured = false then .refused .unconfigured
      else match mapEntryNamed name with
        | none => .refused .unknownName
        | some e =>
          if s.params.gkTableEnabled = false ∧ e.src = .gk then .refused .notInSource
          else if e.tiers.tmin ≤ s.tier.toNat ∧ (∀ m ∈ e.tiers.tmax, s.tier.toNat ≤ m) then .ok e.value
          else .err (.generationMismatch (if e.kind = .constant then .constant else .registerOrWindow)
            ⟨name, none⟩ s.tier.toNat e.tiers.tmin e.tiers.tmax)) }) ∧
  (∀ kind item tier tmin tmax, (errorCode (.generationMismatch kind item tier tmin tmax) = 3 ↔ kind = .registerOrWindow) ∧
    (errorCode (.generationMismatch kind item tier tmin tmax) = 4 ↔ kind = .constant)) ∧
  (∀ (p : Params) (t : Tier) (name : String) (v : MapValue), p.gkTableEnabled = false →
    (mapAnswer p t true name = .ok v ↔
      (name, v) ∈ [("RAM_G", MapValue.address 0x000000#24), ("RAM_DL", .address 0x300000#24),
        ("RAM_REG", .address 0x302000#24), ("RAM_CMD", .address 0x308000#24), ("RAM_REG2", .address 0x309000#24),
        ("RECTS", .constant 9)]))

/-- R42 with the ranges of the table of 20_memory.md R41. Witness: test_witness_region, and at the boundaries test_region_boundaries. -/
def Obligations.RegionClassificationOfEveryAddress : Prop :=
  ∀ (s : State) (rest : List Request) (a : Int), s.configured = true → s.params.ramGSize = 0x100000 →
    s.params.ramDlSize = 0x2000 → s.params.ramRegSize = 0x1000 → s.params.ramCmdSize = 0x1000 →
    s.params.ramReg2Size = 0x800 →
    step { s with requests := .region (.int a) :: rest } = .next { s with requests := rest, mapOut := some (
      if a < 0 then .refused .addrRange
      else if a ≤ 0x0FFFFF then .ok (.region (.window .ramG))
      else if a < 0x1E0000 then .ok (.region .unmapped)
      else if a ≤ 0x2FFFFB then .ok (.region (.window .romFont))
      else if a ≤ 0x2FFFFF then .ok (.region (.window .romFontRoot))
      else if a ≤ 0x301FFF then .ok (.region (.window .ramDl))
      else if a ≤ 0x302FFF then .ok (.region (.window .ramReg))
      else if a < 0x308000 then .ok (.region .unmapped)
      else if a ≤ 0x308FFF then .ok (.region (.window .ramCmd))
      else if a ≤ 0x3097FF then .ok (.region (.window .ramReg2))
      else if a ≤ 0x30987F then .ok (.region (.window .ramErrReport))
      else if a ≤ 0xFFFFFF then .ok (.region .unmapped)
      else .refused .addrRange) }

/-- R264, R265: the tables, row by row as the spec has them. -/
def Obligations.TierTwoRegisterAddresses : Prop :=
  (∀ r ∈ ([
      ⟨"REG_ID", 0x302000, 0x000, .ramReg, 2, .unclassified⟩,
      ⟨"REG_FRAMES", 0x302004, 0x004, .ramReg, 2, .readOnly⟩,
      ⟨"REG_CLOCK", 0x302008, 0x008, .ramReg, 2, .unclassified⟩,
      ⟨"REG_FREQUENCY", 0x30200C, 0x00C, .ramReg, 2, .unclassified⟩,
      ⟨"REG_RENDERMODE", 0x302010, 0x010, .ramReg, 2, .unclassified⟩,
      ⟨"REG_SNAPY", 0x302014, 0x014, .ramReg, 2, .unclassified⟩,
      ⟨"REG_SNAPSHOT", 0x302018, 0x018, .ramReg, 2, .unclassified⟩,
      ⟨"REG_SNAPFORMAT", 0x30201C, 0x01C, .ramReg, 2, .unclassified⟩,
      ⟨"REG_CPURESET", 0x302020, 0x020, .ramReg, 2, .unclassified⟩,
      ⟨"REG_TAP_CRC", 0x302024, 0x024, .ramReg, 2, .unclassified⟩,
      ⟨"REG_TAP_MASK", 0x302028, 0x028, .ramReg, 2, .unclassified⟩,
      ⟨"REG_HCYCLE", 0x30202C, 0x02C, .ramReg, 2, .readWrite⟩,
      ⟨"REG_HOFFSET", 0x302030, 0x030, .ramReg, 2, .readWrite⟩,
      ⟨"REG_HSIZE", 0x302034, 0x034, .ramReg, 2, .readWrite⟩,
      ⟨"REG_HSYNC0", 0x302038, 0x038, .ramReg, 2, .readWrite⟩,
      ⟨"REG_HSYNC1", 0x30203C, 0x03C, .ramReg, 2, .readWrite⟩] : List RegisterEntry),
      registerNamed r.name = some r ∧ accessClassOf r.name = some r.access ∧
      mapEntryNamed r.name = some ⟨.address (BitVec.ofNat 24 r.address), ⟨2, none⟩, .register, .gk⟩) ∧
  (∀ r ∈ ([
      ⟨"REG_VCYCLE", 0x302040, 0x040, .ramReg, 2, .unclassified⟩,
      ⟨"REG_VOFFSET", 0x302044, 0x044, .ramReg, 2, .readWrite⟩,
      ⟨"REG_VSIZE", 0x302048, 0x048, .ramReg, 2, .readWrite⟩,
      ⟨"REG_VSYNC0", 0x30204C, 0x04C, .ramReg, 2, .readWrite⟩,
      ⟨"REG_VSYNC1", 0x302050, 0x050, .ramReg, 2, .readWrite⟩,
      ⟨"REG_DLSWAP", 0x302054, 0x054, .ramReg, 2, .writeOnly⟩,
      ⟨"REG_ROTATE", 0x302058, 0x058, .ramReg, 2, .unclassified⟩,
      ⟨"REG_OUTBITS", 0x30205C, 0x05C, .ramReg, 2, .unclassified⟩,
      ⟨"REG_DITHER", 0x302060, 0x060, .ramReg, 2, .unclassified⟩,
      ⟨"REG_SWIZZLE", 0x302064, 0x064, .ramReg, 2, .unclassified⟩,
      ⟨"REG_CSPREAD", 0x302068, 0x068, .ramReg, 2, .unclassified⟩,
      ⟨"REG_PCLK_POL", 0x30206C, 0x06C, .ramReg, 2, .unclassified⟩,
      ⟨"REG_PCLK", 0x302070, 0x070, .ramReg, 2, .unclassified⟩,
      ⟨"REG_TAG_X", 0x302074, 0x074, .ramReg, 2, .unclassified⟩,
      ⟨"REG_TAG_Y", 0x302078, 0x078, .ramReg, 2, .unclassified⟩,
      ⟨"REG_TAG", 0x30207C, 0x07C, .ramReg, 2, .unclassified⟩] : List RegisterEntry),
      registerNamed r.name = some r ∧ accessClassOf r.name = some r.access ∧
      mapEntryNamed r.name = some ⟨.address (BitVec.ofNat 24 r.address), ⟨2, none⟩, .register, .gk⟩) ∧
  (∀ r ∈ ([
      ⟨"REG_VOL_PB", 0x302080, 0x080, .ramReg, 2, .unclassified⟩,
      ⟨"REG_VOL_SOUND", 0x302084, 0x084, .ramReg, 2, .unclassified⟩,
      ⟨"REG_SOUND", 0x302088, 0x088, .ramReg, 2, .unclassified⟩,
      ⟨"REG_PLAY", 0x30208C, 0x08C, .ramReg, 2, .unclassified⟩,
      ⟨"REG_GPIO_DIR", 0x302090, 0x090, .ramReg, 2, .unclassified⟩,
      ⟨"REG_GPIO", 0x302094, 0x094, .ramReg, 2, .unclassified⟩,
      ⟨"REG_GPIOX_DIR", 0x302098, 0x098, .ramReg, 2, .unclassified⟩,
      ⟨"REG_GPIOX", 0x30209C, 0x09C, .ramReg, 2, .unclassified⟩,
      ⟨"REG_INT_FLAGS", 0x3020A8, 0x0A8, .ramReg, 2, .readOnly⟩,
      ⟨"REG_INT_EN", 0x3020AC, 0x0AC, .ramReg, 2, .unclassified⟩,
      ⟨"REG_INT_MASK", 0x3020B0, 0x0B0, .ramReg, 2, .writeOnly⟩,
      ⟨"REG_PLAYBACK_START", 0x3020B4, 0x0B4, .ramReg, 2, .unclassified⟩,
      ⟨"REG_PLAYBACK_LENGTH", 0x3020B8, 0x0B8, .ramReg, 2, .unclassified⟩,
      ⟨"REG_PLAYBACK_READPTR", 0x3020BC, 0x0BC, .ramReg, 2, .unclassified⟩,
      ⟨"REG_PLAYBACK_FREQ", 0x3020C0, 0x0C0, .ramReg, 2, .unclassified⟩,
      ⟨"REG_PLAYBACK_FORMAT", 0x3020C4, 0x0C4, .ramReg, 2, .unclassified⟩] : List RegisterEntry),
      registerNamed r.name = some r ∧ accessClassOf r.name = some r.access ∧
      mapEntryNamed r.name = some ⟨.address (BitVec.ofNat 24 r.address), ⟨2, none⟩, .register, .gk⟩) ∧
  (∀ r ∈ ([
      ⟨"REG_PLAYBACK_LOOP", 0x3020C8, 0x0C8, .ramReg, 2, .unclassified⟩,
      ⟨"REG_PLAYBACK_PLAY", 0x3020CC, 0x0CC, .ramReg, 2, .unclassified⟩,
      ⟨"REG_PWM_HZ", 0x3020D0, 0x0D0, .ramReg, 2, .unclassified⟩,
      ⟨"REG_PWM_DUTY", 0x3020D4, 0x0D4, .ramReg, 2, .unclassified⟩,
      ⟨"REG_MACRO_0", 0x3020D8, 0x0D8, .ramReg, 2, .unclassified⟩,
      ⟨"REG_MACRO_1", 0x3020DC, 0x0DC, .ramReg, 2, .unclassified⟩,
      ⟨"REG_CMD_READ", 0x3020F8, 0x0F8, .ramReg, 2, .unclassified⟩,
      ⟨"REG_CMD_WRITE", 0x3020FC, 0x0FC, .ramReg, 2, .unclassified⟩,
      ⟨"REG_CMD_DL", 0x302100, 0x100, .ramReg, 2, .unclassified⟩,
      ⟨"REG_TOUCH_MODE", 0x302104, 0x104, .ramReg, 2, .unclassified⟩,
      ⟨"REG_TOUCH_ADC_MODE", 0x302108, 0x108, .ramReg, 2, .unclassified⟩,
      ⟨"REG_TOUCH_CHARGE", 0x30210C, 0x10C, .ramReg, 2, .unclassified⟩,
      ⟨"REG_TOUCH_SETTLE", 0x302110, 0x110, .ramReg, 2, .unclassified⟩,
      ⟨"REG_TOUCH_OVERSAMPLE", 0x302114, 0x114, .ramReg, 2, .unclassified⟩,
      ⟨"REG_TOUCH_RZTHRESH", 0x302118, 0x118, .ramReg, 2, .unclassified⟩,
      ⟨"REG_TOUCH_RAW_XY", 0x30211C, 0x11C, .ramReg, 2, .readOnly⟩] : List RegisterEntry),
      registerNamed r.name = some r ∧ accessClassOf r.name = some r.access ∧
      mapEntryNamed r.name = some ⟨.address (BitVec.ofNat 24 r.address), ⟨2, none⟩, .register, .gk⟩) ∧
  (∀ r ∈ ([
      ⟨"REG_TOUCH_RZ", 0x302120, 0x120, .ramReg, 2, .unclassified⟩,
      ⟨"REG_TOUCH_SCREEN_XY", 0x302124, 0x124, .ramReg, 2, .readOnly⟩,
      ⟨"REG_TOUCH_TAG_XY", 0x302128, 0x128, .ramReg, 2, .readOnly⟩,
      ⟨"REG_TOUCH_TAG", 0x30212C, 0x12C, .ramReg, 2, .unclassified⟩,
      ⟨"REG_TOUCH_TAG1_XY", 0x302130, 0x130, .ramReg, 2, .readOnly⟩,
      ⟨"REG_TOUCH_TAG1", 0x302134, 0x134, .ramReg, 2, .unclassified⟩,
      ⟨"REG_TOUCH_TAG2_XY", 0x302138, 0x138, .ramReg, 2, .readOnly⟩,
      ⟨"REG_TOUCH_TAG2", 0x30213C, 0x13C, .ramReg, 2, .unclassified⟩,
      ⟨"REG_TOUCH_TAG3_XY", 0x302140, 0x140, .ramReg, 2, .readOnly⟩,
      ⟨"REG_TOUCH_TAG3", 0x302144, 0x144, .ramReg, 2, .unclassified⟩,
      ⟨"REG_TOUCH_TAG4_XY", 0x302148, 0x148, .ramReg, 2, .readOnly⟩,
      ⟨"REG_TOUCH_TAG4", 0x30214C, 0x14C, .ramReg, 2, .unclassified⟩,
      ⟨"REG_TOUCH_TRANSFORM_A", 0x302150, 0x150, .ramReg, 2, .unclassified⟩,
      ⟨"REG_TOUCH_TRANSFORM_B", 0x302154, 0x154, .ramReg, 2, .unclassified⟩,
      ⟨"REG_TOUCH_TRANSFORM_C", 0x302158, 0x158, .ramReg, 2, .unclassified⟩,
      ⟨"REG_TOUCH_TRANSFORM_D", 0x30215C, 0x15C, .ramReg, 2, .unclassified⟩] : List RegisterEntry),
      registerNamed r.name = some r ∧ accessClassOf r.name = some r.access ∧
      mapEntryNamed r.name = some ⟨.address (BitVec.ofNat 24 r.address), ⟨2, none⟩, .register, .gk⟩) ∧
  (∀ r ∈ ([
      ⟨"REG_TOUCH_TRANSFORM_E", 0x302160, 0x160, .ramReg, 2, .unclassified⟩,
      ⟨"REG_TOUCH_TRANSFORM_F", 0x302164, 0x164, .ramReg, 2, .unclassified⟩,
      ⟨"REG_TOUCH_CONFIG", 0x302168, 0x168, .ramReg, 2, .unclassified⟩,
      ⟨"REG_CTOUCH_TOUCH4_X", 0x30216C, 0x16C, .ramReg, 2, .readOnly⟩,
      ⟨"REG_BIST_EN", 0x302174, 0x174, .ramReg, 2, .unclassified⟩,
      ⟨"REG_TRIM", 0x302180, 0x180, .ramReg, 2, .unclassified⟩,
      ⟨"REG_ANA_COMP", 0x302184, 0x184, .ramReg, 2, .unclassified⟩,
      ⟨"REG_SPI_WIDTH", 0x302188, 0x188, .ramReg, 2, .unclassified⟩,
      ⟨"REG_TOUCH_DIRECT_XY", 0x30218C, 0x18C, .ramReg, 2, .readOnly⟩,
      ⟨"REG_TOUCH_DIRECT_Z1Z2", 0x302190, 0x190, .ramReg, 2, .unclassified⟩,
      ⟨"REG_DATESTAMP", 0x302564, 0x564, .ramReg, 2, .unclassified⟩,
      ⟨"REG_CMDB_SPACE", 0x302574, 0x574, .ramReg, 2, .unclassified⟩,
      ⟨"REG_CMDB_WRITE", 0x302578, 0x578, .ramReg, 2, .unclassified⟩] : List RegisterEntry),
      registerNamed r.name = some r ∧ accessClassOf r.name = some r.access ∧
      mapEntryNamed r.name = some ⟨.address (BitVec.ofNat 24 r.address), ⟨2, none⟩, .register, .gk⟩) ∧
  (∀ r ∈ ([
      ⟨"REG_TRACKER", 0x309000, 0x000, .ramReg2, 2, .unclassified⟩,
      ⟨"REG_TRACKER_1", 0x309004, 0x004, .ramReg2, 2, .unclassified⟩,
      ⟨"REG_TRACKER_2", 0x309008, 0x008, .ramReg2, 2, .unclassified⟩,
      ⟨"REG_TRACKER_3", 0x30900C, 0x00C, .ramReg2, 2, .unclassified⟩,
      ⟨"REG_TRACKER_4", 0x309010, 0x010, .ramReg2, 2, .unclassified⟩,
      ⟨"REG_MEDIAFIFO_READ", 0x309014, 0x014, .ramReg2, 2, .unclassified⟩,
      ⟨"REG_MEDIAFIFO_WRITE", 0x309018, 0x018, .ramReg2, 2, .unclassified⟩] : List RegisterEntry),
      registerNamed r.name = some r ∧ accessClassOf r.name = some r.access ∧
      mapEntryNamed r.name = some ⟨.address (BitVec.ofNat 24 r.address), ⟨2, none⟩, .register, .gk⟩)

/-- R266, R267: the tables, row by row as the spec has them (representative sets, as the spec says). -/
def Obligations.HigherTierRegisterAddresses : Prop :=
  (∀ r ∈ ([
      ⟨"REG_ADAPTIVE_FRAMERATE", 0x30257C, 0x57C, .ramReg, 3, .unclassified⟩,
      ⟨"REG_FLASH_STATUS", 0x3025F0, 0x5F0, .ramReg, 3, .unclassified⟩,
      ⟨"REG_FLASH_SIZE", 0x309024, 0x024, .ramReg2, 3, .unclassified⟩,
      ⟨"REG_ANIM_ACTIVE", 0x30902C, 0x02C, .ramReg2, 3, .unclassified⟩,
      ⟨"REG_PLAY_CONTROL", 0x30914E, 0x14E, .ramReg2, 3, .unclassified⟩,
      ⟨"REG_COPRO_PATCH_PTR", 0x309162, 0x162, .ramReg2, 3, .unclassified⟩] : List RegisterEntry),
      registerNamed r.name = some r ∧ accessClassOf r.name = some r.access ∧
      mapEntryNamed r.name = some ⟨.address (BitVec.ofNat 24 r.address), ⟨3, none⟩, .register, .gk⟩) ∧
  (∀ r ∈ ([
      ⟨"REG_UNDERRUN", 0x30260C, 0x60C, .ramReg, 4, .unclassified⟩,
      ⟨"REG_AH_HCYCLE_MAX", 0x302610, 0x610, .ramReg, 4, .unclassified⟩,
      ⟨"REG_PCLK_FREQ", 0x302614, 0x614, .ramReg, 4, .unclassified⟩,
      ⟨"REG_PCLK_2X", 0x302618, 0x618, .ramReg, 4, .unclassified⟩] : List RegisterEntry),
      registerNamed r.name = some r ∧ accessClassOf r.name = some r.access ∧
      mapEntryNamed r.name = some ⟨.address (BitVec.ofNat 24 r.address), ⟨4, none⟩, .register, .gk⟩)

/-- R268. -/
def Obligations.SecondNamesAndWindowNames : Prop :=
  (∀ q ∈ [("REG_CTOUCH_EXTENDED", "REG_TOUCH_ADC_MODE", 0x302108),
      ("REG_CTOUCH_TOUCH1_XY", "REG_TOUCH_RAW_XY", 0x30211C),
      ("REG_CTOUCH_TOUCH4_Y", "REG_TOUCH_RZ", 0x302120),
      ("REG_CTOUCH_TOUCH0_XY", "REG_TOUCH_SCREEN_XY", 0x302124),
      ("REG_CTOUCH_TOUCH2_XY", "REG_TOUCH_DIRECT_XY", 0x30218C),
      ("REG_CTOUCH_TOUCH3_XY", "REG_TOUCH_DIRECT_Z1Z2", 0x302190),
      ("REG_CTOUCH_TRANSFORM_A", "REG_TOUCH_TRANSFORM_A", 0x302150),
      ("REG_CTOUCH_TRANSFORM_B", "REG_TOUCH_TRANSFORM_B", 0x302154),
      ("REG_CTOUCH_TRANSFORM_C", "REG_TOUCH_TRANSFORM_C", 0x302158),
      ("REG_CTOUCH_TRANSFORM_D", "REG_TOUCH_TRANSFORM_D", 0x30215C),
      ("REG_CTOUCH_TRANSFORM_E", "REG_TOUCH_TRANSFORM_E", 0x302160),
      ("REG_CTOUCH_TRANSFORM_F", "REG_TOUCH_TRANSFORM_F", 0x302164)],
    mapEntryNamed q.1 = mapEntryNamed q.2.1 ∧ accessClassOf q.1 = accessClassOf q.2.1 ∧
    mapEntryNamed q.1 = some ⟨.address (BitVec.ofNat 24 q.2.2), ⟨2, none⟩, .register, .gk⟩) ∧
  mapEntryNamed "RAM_G" = some ⟨.address 0x000000#24, ⟨2, none⟩, .window, .doc⟩ ∧
  mapEntryNamed "ROM_FONT" = some ⟨.address 0x1E0000#24, ⟨2, none⟩, .window, .gk⟩ ∧
  mapEntryNamed "ROM_FONTROOT" = some ⟨.address 0x2FFFFC#24, ⟨2, none⟩, .window, .gk⟩ ∧
  mapEntryNamed "RAM_DL" = some ⟨.address 0x300000#24, ⟨2, none⟩, .window, .doc⟩ ∧
  mapEntryNamed "RAM_REG" = some ⟨.address 0x302000#24, ⟨2, none⟩, .window, .doc⟩ ∧
  mapEntryNamed "RAM_CMD" = some ⟨.address 0x308000#24, ⟨2, none⟩, .window, .doc⟩ ∧
  mapEntryNamed "RAM_REG2" = some ⟨.address 0x309000#24, ⟨2, none⟩, .window, .doc⟩ ∧
  mapEntryNamed "RAM_ERR_REPORT" = some ⟨.address 0x309800#24, ⟨3, none⟩, .window, .gk⟩

/-- R291 to R299: the tables, row by row as the spec has them; ZERO and ONE of R299 stand with the lower tier (R290). -/
def Obligations.OperandConstantValues : Prop :=
  (∀ q ∈ [("BITMAPS", 1), ("POINTS", 2), ("LINES", 3), ("LINE_STRIP", 4), ("EDGE_STRIP_R", 5),
      ("EDGE_STRIP_L", 6), ("EDGE_STRIP_A", 7), ("EDGE_STRIP_B", 8)],
      mapEntryNamed q.1 = some ⟨.constant q.2, ⟨2, none⟩, .constant, .gk⟩) ∧
  mapEntryNamed "RECTS" = some ⟨.constant 9, ⟨2, none⟩, .constant, .doc⟩ ∧
  (∀ q ∈ [("ARGB1555", 0), ("L1", 1), ("L4", 2), ("L8", 3), ("RGB332", 4), ("ARGB2", 5), ("ARGB4", 6),
      ("RGB565", 7), ("TEXT8X8", 9), ("TEXTVGA", 10), ("BARGRAPH", 11), ("PALETTED565", 14), ("PALETTED4444", 15),
      ("PALETTED8", 16), ("L2", 17)],
      mapEntryNamed q.1 = some ⟨.constant q.2, ⟨2, none⟩, .constant, .gk⟩) ∧
  (∀ q ∈ [("GLFORMAT", 31), ("COMPRESSED_RGBA_ASTC_4x4_KHR", 37808), ("COMPRESSED_RGBA_ASTC_5x4_KHR", 37809),
      ("COMPRESSED_RGBA_ASTC_5x5_KHR", 37810), ("COMPRESSED_RGBA_ASTC_6x5_KHR", 37811),
      ("COMPRESSED_RGBA_ASTC_6x6_KHR", 37812), ("COMPRESSED_RGBA_ASTC_8x5_KHR", 37813),
      ("COMPRESSED_RGBA_ASTC_8x6_KHR", 37814), ("COMPRESSED_RGBA_ASTC_8x8_KHR", 37815),
      ("COMPRESSED_RGBA_ASTC_10x5_KHR", 37816), ("COMPRESSED_RGBA_ASTC_10x6_KHR", 37817),
      ("COMPRESSED_RGBA_ASTC_10x8_KHR", 37818), ("COMPRESSED_RGBA_ASTC_10x10_KHR", 37819),
      ("COMPRESSED_RGBA_ASTC_12x10_KHR", 37820), ("COMPRESSED_RGBA_ASTC_12x12_KHR", 37821)],
      mapEntryNamed q.1 = some ⟨.constant q.2, ⟨3, none⟩, .constant, .gk⟩) ∧
  (∀ q ∈ [("NEVER", 0), ("LESS", 1), ("LEQUAL", 2), ("GREATER", 3), ("GEQUAL", 4), ("EQUAL", 5), ("NOTEQUAL", 6),
      ("ALWAYS", 7)],
      mapEntryNamed q.1 = some ⟨.constant q.2, ⟨2, none⟩, .constant, .gk⟩) ∧
  (∀ q ∈ [("ZERO", 0), ("ONE", 1), ("SRC_ALPHA", 2), ("DST_ALPHA", 3), ("ONE_MINUS_SRC_ALPHA", 4),
      ("ONE_MINUS_DST_ALPHA", 5)],
      mapEntryNamed q.1 = some ⟨.constant q.2, ⟨2, none⟩, .constant, .gk⟩) ∧
  (∀ q ∈ [("ZERO", 0), ("KEEP", 1), ("REPLACE", 2), ("INCR", 3), ("DECR", 4), ("INVERT", 5)],
      mapEntryNamed q.1 = some ⟨.constant q.2, ⟨2, none⟩, .constant, .gk⟩) ∧
  (∀ q ∈ [("NEAREST", 0), ("BILINEAR", 1), ("BORDER", 0), ("REPEAT", 1)],
      mapEntryNamed q.1 = some ⟨.constant q.2, ⟨2, none⟩, .constant, .gk⟩) ∧
  (∀ q ∈ [("CLR_COL", 4), ("CLR_STN", 2), ("CLR_TAG", 1), ("DLSWAP_DONE", 0), ("DLSWAP_LINE", 1),
      ("DLSWAP_FRAME", 2), ("INT_SWAP", 1), ("INT_TOUCH", 2), ("INT_TAG", 4), ("INT_SOUND", 8), ("INT_PLAYBACK", 16),
      ("INT_CMDEMPTY", 32), ("INT_CMDFLAG", 64), ("INT_CONVCOMPLETE", 128)],
      mapEntryNamed q.1 = some ⟨.constant q.2, ⟨2, none⟩, .constant, .gk⟩) ∧
  (∀ q ∈ [("RED", 2), ("GREEN", 3), ("BLUE", 4), ("ALPHA", 5)],
      mapEntryNamed q.1 = some ⟨.constant q.2, ⟨3, none⟩, .constant, .gk⟩)

/-- R270, an inference the spec marks as its own, and the one namespace of R260. -/
def Obligations.RegisterTableIsWellFormed : Prop :=
  (registers.map (·.address)).Nodup ∧
  (registers.map (·.name) ++ registerSynonyms.map (·.1) ++ windowOrder.map windowName ++ constants.map (·.name)).Nodup ∧
  (∀ r ∈ registers, r.address < 2 ^ 24 ∧ (r.window = .ramReg ∨ r.window = .ramReg2) ∧
    r.address = windowBase r.window + r.offset ∧
    (r.window = .ramReg → r.offset < 0x1000) ∧ (r.window = .ramReg2 → r.offset < 0x800) ∧
    (r.tmin = 2 → r.address % 4 = 0))

/-- R45, R46 (the byte order is the spec's own choice, log entry 18). Witness: test_witness_image. -/
def Obligations.DisplayListImageIsLittleEndian : Prop :=
  ∀ ws : List Word,
    (displayListImage ws).length = 4 * ws.length ∧
    (∀ (i j : Nat) (w : Word), ws[i]? = some w → j < 4 →
      (displayListImage ws)[4 * i + j]? = some (0x300000 + 4 * i + j, w.extractLsb' (8 * j) 8)) ∧
    ((displayListImage ws).Pairwise fun a b => a.1 < b.1)

/-- R9; its equality with the masked 32-bit word is an inference the spec marks as its own. Witness of the last clause: test_witness_mask_width. -/
def Obligations.ResidueIsTheMaskedTwosComplement : Prop :=
  ∀ (v : Int) (n : Nat),
    ((field v n : Nat) : Int) = v % 2 ^ n ∧ field v n < 2 ^ n ∧
    (n ≤ 32 → BitVec.ofNat 32 (field v n) = BitVec.ofInt 32 v &&& BitVec.ofNat 32 (2 ^ n - 1))

/-- The ruling U3 of 93_implementation_defined.md with R21, R25 and R331. The reason of the refusal, which U3 does not name, is the model's (log entry 13) and is not stated, nor is TIER, a free value (log entry 6). That the other ports keep what they held is log entry 2. Witness: test_witness_illegal_tier. -/
def Obligations.IllegalTierIsRefused : Prop :=
  ∀ (s : State) (rest : List Request) (v : Int), s.configured = false → v < 2 →
    ∃ (t : State) (reason : RefusalReason), step { s with requests := .rst (.int v) :: rest } = .next t ∧
      t.cfgOut = some (.refused reason) ∧ t.configured = false ∧ t.params = s.params ∧ t.requests = rest ∧
      t.encOut = s.encOut ∧ t.hostOut = s.hostOut ∧ t.mapOut = s.mapOut ∧
      (∀ r : Request, (∀ o, r ≠ .rst o) → (responseTo (t.serve r) r).refusal = some .unconfigured) ∧
      (∀ u : Int, 2 ≤ u → (t.serve (.rst (.int u))).configured = true)
end

