-- ==== Sys2Proof/Laws/Image.lean ====
section
/-! SUPPORT. Where the bytes of a display list stand in its image, and what its words are. -/

namespace Sys2Proof.Machine

@[simp] theorem cellsFrom_length (a : Nat) (bs : List Byte) : (cellsFrom a bs).length = bs.length := by
  induction bs generalizing a with
  | nil => rfl
  | cons b rest ih => simp [cellsFrom, ih]

/-- The k-th cell holds the k-th byte, k above the first address. -/
theorem cellsFrom_getElem? (a k : Nat) (bs : List Byte) :
    (cellsFrom a bs)[k]? = bs[k]?.map fun b => (a + k, b) := by
  induction bs generalizing a k with
  | nil => rfl
  | cons b rest ih =>
    cases k with
    | zero => rfl
    | succ k =>
      simp only [cellsFrom, List.getElem?_cons_succ, ih]
      congr 1
      funext c
      rw [Nat.add_assoc, Nat.add_comm 1 k]

@[simp] theorem streamBytes_length (ws : List Word) : (streamBytes ws).length = 4 * ws.length := by
  induction ws with
  | nil => rfl
  | cons w rest ih => simp [streamBytes, wordBytes, ih]; omega

/-- The words emitted are those of the responses that are words, in order (60_exceptions.md R305). -/
theorem mem_emittedWords (w : Word) (rs : List (Response Word)) : w ∈ emittedWords rs ↔ .ok w ∈ rs := by
  induction rs with
  | nil => simp [emittedWords]
  | cons r rest ih => cases r <;> simp [emittedWords, ih]

end Sys2Proof.Machine
end

