-- ==== Sys2Proof/Laws/Operands.lean ====
section
/-! SUPPORT. What the operand primitives do: the residue, the bits of a placed field, the bits of a packed word,
the signed reading, the range and tier tests. -/

namespace Sys2Proof

theorem two_pow_int_pos (n : Nat) : (0 : Int) < ((2 ^ n : Nat) : Int) := by
  exact_mod_cast Nat.two_pow_pos n

theorem field_cast (v : Int) (n : Nat) : (field v n : Int) = v % ((2 ^ n : Nat) : Int) := by
  unfold field
  exact Int.toNat_of_nonneg (Int.emod_nonneg _ (two_pow_int_pos n).ne')

theorem field_lt (v : Int) (n : Nat) : field v n < 2 ^ n := by
  have h := Int.emod_lt_of_pos v (two_pow_int_pos n)
  rw [← field_cast] at h
  exact_mod_cast h

/-- A value an N-bit field carries exactly is its own residue (R72). -/
theorem field_of_fits {v : Int} {n : Nat} (h0 : 0 ≤ v) (h1 : v < ((2 ^ n : Nat) : Int)) : (field v n : Int) = v := by
  rw [field_cast, Int.emod_eq_of_lt h0 h1]

/-- Taking the residue twice is taking it once. -/
theorem field_field (v : Int) (n : Nat) : field (field v n : Int) n = field v n := by
  have h := field_of_fits (v := (field v n : Int)) (n := n) (by omega) (by exact_mod_cast field_lt v n)
  exact_mod_cast h

/-- The residue as bits is the N-bit two's-complement word of the integer (R9). -/
theorem ofNat_field (v : Int) (n : Nat) (h : n ≤ 32) :
    BitVec.ofNat 32 (field v n) = (BitVec.ofInt n v).setWidth 32 := by
  apply BitVec.eq_of_toNat_eq
  have h2 : 2 ^ n ≤ 2 ^ 32 := Nat.pow_le_pow_right (by decide) h
  have h1 := field_lt v n
  simp only [BitVec.toNat_ofNat, BitVec.toNat_setWidth, BitVec.toNat_ofInt]
  rfl

/-- One bit of a placed field (R10). -/
theorem getLsbD_placed (v : Int) (f : FieldDesc) (i : Nat) (hi : i < 32) :
    (placed v f).getLsbD i = (decide (f.offset ≤ i) && (field v f.width).testBit (i - f.offset)) := by
  unfold placed
  rw [BitVec.getLsbD_shiftLeft, BitVec.getLsbD_ofNat]
  by_cases h : f.offset ≤ i
  · have : i - f.offset < 32 := by omega
    simp [hi, h, this, Nat.not_lt.mpr h]
  · simp [h, Nat.lt_of_not_le h]

/-- A packed word is the base OR the packed fields (R10). -/
theorem pack_or (a b : Word) (fs : List (Int × FieldDesc)) : pack (a ||| b) fs = a ||| pack b fs := by
  induction fs generalizing a b with
  | nil => rfl
  | cons q rest ih =>
    obtain ⟨v, f⟩ := q
    simp only [pack]
    rw [BitVec.or_assoc, ih]

/-- A bit of a packed word is a bit of the base or of a placed field (R10). -/
theorem getLsbD_pack (base : Word) (fs : List (Int × FieldDesc)) (i : Nat) :
    (pack base fs).getLsbD i = (base.getLsbD i || fs.any fun q => (placed q.1 q.2).getLsbD i) := by
  induction fs generalizing base with
  | nil => simp [pack]
  | cons q rest ih =>
    obtain ⟨v, f⟩ := q
    simp [pack, ih, Bool.or_assoc]

/-- The packed word depends on the operands through their residues alone (R73). -/
theorem placed_congr {v v' : Int} {f : FieldDesc} (h : field v f.width = field v' f.width) :
    placed v f = placed v' f := by
  unfold placed
  rw [h]

theorem fieldBits_lt (w : Word) (f : FieldDesc) : fieldBits w f < 2 ^ f.width :=
  Nat.mod_lt _ (Nat.two_pow_pos _)

/-- The bits of a field read from a word (R71). -/
theorem testBit_fieldBits (w : Word) (f : FieldDesc) (j : Nat) :
    (fieldBits w f).testBit j = (decide (j < f.width) && w.getLsbD (f.offset + j)) := by
  unfold fieldBits
  rw [Nat.testBit_mod_two_pow, Nat.testBit_div_two_pow, Nat.add_comm]
  rfl

/-- The signed reading of the residue of a value of the signed range is the value (R72, R77). -/
theorem sext_field {v : Int} {n : Nat} (hn : 0 < n) (h0 : -((2 ^ (n - 1) : Nat) : Int) ≤ v)
    (h1 : v < ((2 ^ (n - 1) : Nat) : Int)) : sext n (field v n) = v := by
  have hp : 2 ^ n = 2 * 2 ^ (n - 1) := by
    rw [← Nat.pow_succ']
    congr 1
    omega
  have hc := field_cast v n
  unfold sext
  rw [hp] at hc ⊢
  generalize 2 ^ (n - 1) = m at *
  rcases lt_or_ge v 0 with hv | hv
  · have he : v % ((2 * m : Nat) : Int) = v + ((2 * m : Nat) : Int) := by
      rw [← Int.add_emod_right, Int.emod_eq_of_lt] <;> omega
    rw [he] at hc
    rw [if_neg (by omega), hc]
    omega
  · rw [Int.emod_eq_of_lt hv (by omega)] at hc
    rw [if_pos (by omega), hc]

/-- The range test says what R77 and R302 say. -/
theorem inRange_iff (v : Int) (f : FieldDesc) :
    inRange v f = true ↔
      (if f.signed then -((2 ^ (f.width - 1) : Nat) : Int) else 0) ≤ v ∧ v < ((2 ^ f.width : Nat) : Int) := by
  unfold inRange
  simp

/-- No operand is out of range exactly when all are in range. -/
theorem firstOutOfRange_eq_none {args : List Int} {fs : List FieldDesc} (h : args.length = fs.length) :
    firstOutOfRange args fs = none ↔ ∀ q ∈ args.zip fs, inRange q.1 q.2 = true := by
  induction fs generalizing args with
  | nil =>
    cases args with
    | nil => simp [firstOutOfRange]
    | cons => simp at h
  | cons f fs ih =>
    cases args with
    | nil => simp at h
    | cons v vs =>
      simp only [List.length_cons, Nat.add_right_cancel_iff] at h
      by_cases hv : inRange v f = true
      · simp [firstOutOfRange, hv, ih h]
      · simp [firstOutOfRange, hv]

/-- The operand reported is out of range (R304). -/
theorem firstOutOfRange_some {args : List Int} {fs : List FieldDesc} {f : FieldDesc} {v : Int}
    (h : firstOutOfRange args fs = some (f, v)) : (v, f) ∈ args.zip fs ∧ inRange v f = false := by
  induction fs generalizing args with
  | nil => cases args <;> simp [firstOutOfRange] at h
  | cons g fs ih =>
    cases args with
    | nil => simp [firstOutOfRange] at h
    | cons u us =>
      by_cases hu : inRange u g = true
      · simp only [firstOutOfRange, hu, if_true] at h
        obtain ⟨hm, hr⟩ := ih h
        exact ⟨List.mem_cons_of_mem _ hm, hr⟩
      · simp only [firstOutOfRange, hu] at h
        simp only [Bool.false_eq_true, if_false, Option.some.injEq, Prod.mk.injEq] at h
        obtain ⟨rfl, rfl⟩ := h
        exact ⟨List.mem_cons_self, by simpa using hu⟩

/-- The tier test as inequalities (10_state.md R32). -/
theorem tierVisible_iff (r : TierRange) (t : Tier) :
    tierVisible r t = true ↔ r.tmin ≤ t.toNat ∧ ∀ m, r.tmax = some m → t.toNat ≤ m := by
  unfold tierVisible
  cases h : r.tmax with
  | none => simp
  | some m => simp

end Sys2Proof
end

