-- ==== Sys2Proof/Laws/State.lean ====
section
/-! SUPPORT. One lemma per field of State per update, so that no later proof unfolds a record update. -/

namespace Sys2Proof.Machine

@[simp] theorem State.driveEnc_tier (s : State) (r : Response Word) : (s.driveEnc r).tier = s.tier := rfl
@[simp] theorem State.driveEnc_configured (s : State) (r : Response Word) : (s.driveEnc r).configured = s.configured := rfl
@[simp] theorem State.driveEnc_params (s : State) (r : Response Word) : (s.driveEnc r).params = s.params := rfl
@[simp] theorem State.driveEnc_requests (s : State) (r : Response Word) : (s.driveEnc r).requests = s.requests := rfl
@[simp] theorem State.driveEnc_encOut (s : State) (r : Response Word) : (s.driveEnc r).encOut = some r := rfl
@[simp] theorem State.driveEnc_hostOut (s : State) (r : Response Word) : (s.driveEnc r).hostOut = s.hostOut := rfl
@[simp] theorem State.driveEnc_mapOut (s : State) (r : Response Word) : (s.driveEnc r).mapOut = s.mapOut := rfl
@[simp] theorem State.driveEnc_cfgOut (s : State) (r : Response Word) : (s.driveEnc r).cfgOut = s.cfgOut := rfl
@[simp] theorem State.driveEnc_freeIndex (s : State) (r : Response Word) : (s.driveEnc r).freeIndex = s.freeIndex := rfl

@[simp] theorem State.driveHost_tier (s : State) (r : Response Frame) : (s.driveHost r).tier = s.tier := rfl
@[simp] theorem State.driveHost_configured (s : State) (r : Response Frame) : (s.driveHost r).configured = s.configured := rfl
@[simp] theorem State.driveHost_params (s : State) (r : Response Frame) : (s.driveHost r).params = s.params := rfl
@[simp] theorem State.driveHost_requests (s : State) (r : Response Frame) : (s.driveHost r).requests = s.requests := rfl
@[simp] theorem State.driveHost_encOut (s : State) (r : Response Frame) : (s.driveHost r).encOut = s.encOut := rfl
@[simp] theorem State.driveHost_hostOut (s : State) (r : Response Frame) : (s.driveHost r).hostOut = some r := rfl
@[simp] theorem State.driveHost_mapOut (s : State) (r : Response Frame) : (s.driveHost r).mapOut = s.mapOut := rfl
@[simp] theorem State.driveHost_cfgOut (s : State) (r : Response Frame) : (s.driveHost r).cfgOut = s.cfgOut := rfl
@[simp] theorem State.driveHost_freeIndex (s : State) (r : Response Frame) : (s.driveHost r).freeIndex = s.freeIndex := rfl

@[simp] theorem State.driveMap_tier (s : State) (r : Response MapValue) : (s.driveMap r).tier = s.tier := rfl
@[simp] theorem State.driveMap_configured (s : State) (r : Response MapValue) : (s.driveMap r).configured = s.configured := rfl
@[simp] theorem State.driveMap_params (s : State) (r : Response MapValue) : (s.driveMap r).params = s.params := rfl
@[simp] theorem State.driveMap_requests (s : State) (r : Response MapValue) : (s.driveMap r).requests = s.requests := rfl
@[simp] theorem State.driveMap_encOut (s : State) (r : Response MapValue) : (s.driveMap r).encOut = s.encOut := rfl
@[simp] theorem State.driveMap_hostOut (s : State) (r : Response MapValue) : (s.driveMap r).hostOut = s.hostOut := rfl
@[simp] theorem State.driveMap_mapOut (s : State) (r : Response MapValue) : (s.driveMap r).mapOut = some r := rfl
@[simp] theorem State.driveMap_cfgOut (s : State) (r : Response MapValue) : (s.driveMap r).cfgOut = s.cfgOut := rfl
@[simp] theorem State.driveMap_freeIndex (s : State) (r : Response MapValue) : (s.driveMap r).freeIndex = s.freeIndex := rfl

@[simp] theorem State.driveCfg_tier (s : State) (r : Response Unit) : (s.driveCfg r).tier = s.tier := rfl
@[simp] theorem State.driveCfg_configured (s : State) (r : Response Unit) : (s.driveCfg r).configured = s.configured := rfl
@[simp] theorem State.driveCfg_params (s : State) (r : Response Unit) : (s.driveCfg r).params = s.params := rfl
@[simp] theorem State.driveCfg_requests (s : State) (r : Response Unit) : (s.driveCfg r).requests = s.requests := rfl
@[simp] theorem State.driveCfg_encOut (s : State) (r : Response Unit) : (s.driveCfg r).encOut = s.encOut := rfl
@[simp] theorem State.driveCfg_hostOut (s : State) (r : Response Unit) : (s.driveCfg r).hostOut = s.hostOut := rfl
@[simp] theorem State.driveCfg_mapOut (s : State) (r : Response Unit) : (s.driveCfg r).mapOut = s.mapOut := rfl
@[simp] theorem State.driveCfg_cfgOut (s : State) (r : Response Unit) : (s.driveCfg r).cfgOut = some r := rfl
@[simp] theorem State.driveCfg_freeIndex (s : State) (r : Response Unit) : (s.driveCfg r).freeIndex = s.freeIndex := rfl

@[simp] theorem State.configure_tier (s : State) (t : Tier) : (s.configure t).tier = t := rfl
@[simp] theorem State.configure_configured (s : State) (t : Tier) : (s.configure t).configured = true := rfl
@[simp] theorem State.configure_params (s : State) (t : Tier) : (s.configure t).params = s.params := rfl
@[simp] theorem State.configure_requests (s : State) (t : Tier) : (s.configure t).requests = s.requests := rfl
@[simp] theorem State.configure_encOut (s : State) (t : Tier) : (s.configure t).encOut = s.encOut := rfl
@[simp] theorem State.configure_hostOut (s : State) (t : Tier) : (s.configure t).hostOut = s.hostOut := rfl
@[simp] theorem State.configure_mapOut (s : State) (t : Tier) : (s.configure t).mapOut = s.mapOut := rfl
@[simp] theorem State.configure_cfgOut (s : State) (t : Tier) : (s.configure t).cfgOut = s.cfgOut := rfl
@[simp] theorem State.configure_freeIndex (s : State) (t : Tier) : (s.configure t).freeIndex = s.freeIndex := rfl

@[simp] theorem State.unconfigure_tier (s : State) : s.unconfigure.tier = Config.unspecifiedTier s.freeIndex := rfl
@[simp] theorem State.unconfigure_configured (s : State) : s.unconfigure.configured = false := rfl
@[simp] theorem State.unconfigure_freeIndex (s : State) : s.unconfigure.freeIndex = s.freeIndex + 1 := rfl
@[simp] theorem State.unconfigure_params (s : State) : s.unconfigure.params = s.params := rfl
@[simp] theorem State.unconfigure_requests (s : State) : s.unconfigure.requests = s.requests := rfl
@[simp] theorem State.unconfigure_encOut (s : State) : s.unconfigure.encOut = s.encOut := rfl
@[simp] theorem State.unconfigure_hostOut (s : State) : s.unconfigure.hostOut = s.hostOut := rfl
@[simp] theorem State.unconfigure_mapOut (s : State) : s.unconfigure.mapOut = s.mapOut := rfl
@[simp] theorem State.unconfigure_cfgOut (s : State) : s.unconfigure.cfgOut = s.cfgOut := rfl

@[simp] theorem State.submit_tier (s : State) (r : Request) : (s.submit r).tier = s.tier := rfl
@[simp] theorem State.submit_configured (s : State) (r : Request) : (s.submit r).configured = s.configured := rfl
@[simp] theorem State.submit_params (s : State) (r : Request) : (s.submit r).params = s.params := rfl
@[simp] theorem State.submit_requests (s : State) (r : Request) : (s.submit r).requests = s.requests ++ [r] := rfl
@[simp] theorem State.submit_encOut (s : State) (r : Request) : (s.submit r).encOut = s.encOut := rfl
@[simp] theorem State.submit_hostOut (s : State) (r : Request) : (s.submit r).hostOut = s.hostOut := rfl
@[simp] theorem State.submit_mapOut (s : State) (r : Request) : (s.submit r).mapOut = s.mapOut := rfl
@[simp] theorem State.submit_cfgOut (s : State) (r : Request) : (s.submit r).cfgOut = s.cfgOut := rfl
@[simp] theorem State.submit_freeIndex (s : State) (r : Request) : (s.submit r).freeIndex = s.freeIndex := rfl

end Sys2Proof.Machine
end

