-- ==== Sys2Proof/Laws/PerInstr.lean ====
section
/-! SUPPORT. Statements about the instruction as syntax, one lemma per constructor of Instr (LAWS.json). -/

namespace Sys2Proof.Laws

/-- An instruction has as many operands as its row has fields; a host command has one, its parameter. -/
def ArgsMatchFields.Statement (i : Instr) : Prop :=
  ∀ p : Params, match i.item with
    | .dl op => i.args.length = (opsel p op).fields.length ∧ instrOfOp op i.args = i
    | .host c => i.args.length = 1 ∧ instrOfHost c (i.args.getD 0 0) = i

/-- The request that names an instruction is read as that instruction (30_encoding.md R65, 44_host_commands.md
R231). -/
def RequestNamesInstr.Statement (i : Instr) : Prop :=
  ∀ p : Params, (Machine.requestOf p i).instr? p = some i

theorem ArgsMatchFields.display : ArgsMatchFields.Statement .display := fun _ => ⟨rfl, rfl⟩
theorem ArgsMatchFields.bitmapSource (addr : Int) : ArgsMatchFields.Statement (.bitmapSource addr) := fun _ => ⟨rfl, rfl⟩
theorem ArgsMatchFields.clearColorRgb (red green blue : Int) : ArgsMatchFields.Statement (.clearColorRgb red green blue) := fun _ => ⟨rfl, rfl⟩
theorem ArgsMatchFields.tag (value : Int) : ArgsMatchFields.Statement (.tag value) := fun _ => ⟨rfl, rfl⟩
theorem ArgsMatchFields.colorRgb (red green blue : Int) : ArgsMatchFields.Statement (.colorRgb red green blue) := fun _ => ⟨rfl, rfl⟩
theorem ArgsMatchFields.bitmapHandle (handle : Int) : ArgsMatchFields.Statement (.bitmapHandle handle) := fun _ => ⟨rfl, rfl⟩
theorem ArgsMatchFields.cell (cellIndex : Int) : ArgsMatchFields.Statement (.cell cellIndex) := fun _ => ⟨rfl, rfl⟩
theorem ArgsMatchFields.bitmapLayout (fmt linestride height : Int) : ArgsMatchFields.Statement (.bitmapLayout fmt linestride height) := fun _ => ⟨rfl, rfl⟩
theorem ArgsMatchFields.bitmapSize (filter wrapx wrapy width height : Int) : ArgsMatchFields.Statement (.bitmapSize filter wrapx wrapy width height) := fun _ => ⟨rfl, rfl⟩
theorem ArgsMatchFields.alphaFunc (func ref : Int) : ArgsMatchFields.Statement (.alphaFunc func ref) := fun _ => ⟨rfl, rfl⟩
theorem ArgsMatchFields.stencilFunc (func ref mask : Int) : ArgsMatchFields.Statement (.stencilFunc func ref mask) := fun _ => ⟨rfl, rfl⟩
theorem ArgsMatchFields.blendFunc (src dst : Int) : ArgsMatchFields.Statement (.blendFunc src dst) := fun _ => ⟨rfl, rfl⟩
theorem ArgsMatchFields.stencilOp (sfail spass : Int) : ArgsMatchFields.Statement (.stencilOp sfail spass) := fun _ => ⟨rfl, rfl⟩
theorem ArgsMatchFields.pointSize (size : Int) : ArgsMatchFields.Statement (.pointSize size) := fun _ => ⟨rfl, rfl⟩
theorem ArgsMatchFields.lineWidth (width : Int) : ArgsMatchFields.Statement (.lineWidth width) := fun _ => ⟨rfl, rfl⟩
theorem ArgsMatchFields.clearColorA (alpha : Int) : ArgsMatchFields.Statement (.clearColorA alpha) := fun _ => ⟨rfl, rfl⟩
theorem ArgsMatchFields.colorA (alpha : Int) : ArgsMatchFields.Statement (.colorA alpha) := fun _ => ⟨rfl, rfl⟩
theorem ArgsMatchFields.clearStencil (value : Int) : ArgsMatchFields.Statement (.clearStencil value) := fun _ => ⟨rfl, rfl⟩
theorem ArgsMatchFields.clearTag (value : Int) : ArgsMatchFields.Statement (.clearTag value) := fun _ => ⟨rfl, rfl⟩
theorem ArgsMatchFields.stencilMask (mask : Int) : ArgsMatchFields.Statement (.stencilMask mask) := fun _ => ⟨rfl, rfl⟩
theorem ArgsMatchFields.tagMask (mask : Int) : ArgsMatchFields.Statement (.tagMask mask) := fun _ => ⟨rfl, rfl⟩
theorem ArgsMatchFields.bitmapTransformAG2 (a : Int) : ArgsMatchFields.Statement (.bitmapTransformAG2 a) := fun _ => ⟨rfl, rfl⟩
theorem ArgsMatchFields.bitmapTransformAG3 (p v : Int) : ArgsMatchFields.Statement (.bitmapTransformAG3 p v) := fun _ => ⟨rfl, rfl⟩
theorem ArgsMatchFields.bitmapTransformBG2 (b : Int) : ArgsMatchFields.Statement (.bitmapTransformBG2 b) := fun _ => ⟨rfl, rfl⟩
theorem ArgsMatchFields.bitmapTransformBG3 (p v : Int) : ArgsMatchFields.Statement (.bitmapTransformBG3 p v) := fun _ => ⟨rfl, rfl⟩
theorem ArgsMatchFields.bitmapTransformC (c : Int) : ArgsMatchFields.Statement (.bitmapTransformC c) := fun _ => ⟨rfl, rfl⟩
theorem ArgsMatchFields.bitmapTransformDG2 (d : Int) : ArgsMatchFields.Statement (.bitmapTransformDG2 d) := fun _ => ⟨rfl, rfl⟩
theorem ArgsMatchFields.bitmapTransformDG3 (p v : Int) : ArgsMatchFields.Statement (.bitmapTransformDG3 p v) := fun _ => ⟨rfl, rfl⟩
theorem ArgsMatchFields.bitmapTransformEG2 (e : Int) : ArgsMatchFields.Statement (.bitmapTransformEG2 e) := fun _ => ⟨rfl, rfl⟩
theorem ArgsMatchFields.bitmapTransformEG3 (p v : Int) : ArgsMatchFields.Statement (.bitmapTransformEG3 p v) := fun _ => ⟨rfl, rfl⟩
theorem ArgsMatchFields.bitmapTransformF (f : Int) : ArgsMatchFields.Statement (.bitmapTransformF f) := fun _ => ⟨rfl, rfl⟩
theorem ArgsMatchFields.scissorXy (x y : Int) : ArgsMatchFields.Statement (.scissorXy x y) := fun _ => ⟨rfl, rfl⟩
theorem ArgsMatchFields.scissorSize (width height : Int) : ArgsMatchFields.Statement (.scissorSize width height) := fun _ => ⟨rfl, rfl⟩
theorem ArgsMatchFields.call (dest : Int) : ArgsMatchFields.Statement (.call dest) := fun _ => ⟨rfl, rfl⟩
theorem ArgsMatchFields.jump (dest : Int) : ArgsMatchFields.Statement (.jump dest) := fun _ => ⟨rfl, rfl⟩
theorem ArgsMatchFields.beginPrim (prim : Int) : ArgsMatchFields.Statement (.beginPrim prim) := fun _ => ⟨rfl, rfl⟩
theorem ArgsMatchFields.colorMask (r g b a : Int) : ArgsMatchFields.Statement (.colorMask r g b a) := fun _ => ⟨rfl, rfl⟩
theorem ArgsMatchFields.endPrim : ArgsMatchFields.Statement .endPrim := fun _ => ⟨rfl, rfl⟩
theorem ArgsMatchFields.saveContext : ArgsMatchFields.Statement .saveContext := fun _ => ⟨rfl, rfl⟩
theorem ArgsMatchFields.restoreContext : ArgsMatchFields.Statement .restoreContext := fun _ => ⟨rfl, rfl⟩
theorem ArgsMatchFields.ret : ArgsMatchFields.Statement .ret := fun _ => ⟨rfl, rfl⟩
theorem ArgsMatchFields.macroReg (which : Int) : ArgsMatchFields.Statement (.macroReg which) := fun _ => ⟨rfl, rfl⟩
theorem ArgsMatchFields.clear (cBit sBit tBit : Int) : ArgsMatchFields.Statement (.clear cBit sBit tBit) := fun _ => ⟨rfl, rfl⟩
theorem ArgsMatchFields.vertexFormat (frac : Int) : ArgsMatchFields.Statement (.vertexFormat frac) := fun _ => ⟨rfl, rfl⟩
theorem ArgsMatchFields.bitmapLayoutH (linestride height : Int) : ArgsMatchFields.Statement (.bitmapLayoutH linestride height) := fun _ => ⟨rfl, rfl⟩
theorem ArgsMatchFields.bitmapSizeH (width height : Int) : ArgsMatchFields.Statement (.bitmapSizeH width height) := fun _ => ⟨rfl, rfl⟩
theorem ArgsMatchFields.paletteSource (addr : Int) : ArgsMatchFields.Statement (.paletteSource addr) := fun _ => ⟨rfl, rfl⟩
theorem ArgsMatchFields.vertexTranslateX (x : Int) : ArgsMatchFields.Statement (.vertexTranslateX x) := fun _ => ⟨rfl, rfl⟩
theorem ArgsMatchFields.vertexTranslateY (y : Int) : ArgsMatchFields.Statement (.vertexTranslateY y) := fun _ => ⟨rfl, rfl⟩
theorem ArgsMatchFields.nop : ArgsMatchFields.Statement .nop := fun _ => ⟨rfl, rfl⟩
theorem ArgsMatchFields.bitmapExtFormat (fmt : Int) : ArgsMatchFields.Statement (.bitmapExtFormat fmt) := fun _ => ⟨rfl, rfl⟩
theorem ArgsMatchFields.bitmapSwizzle (r g b a : Int) : ArgsMatchFields.Statement (.bitmapSwizzle r g b a) := fun _ => ⟨rfl, rfl⟩
theorem ArgsMatchFields.vertex2f (x y : Int) : ArgsMatchFields.Statement (.vertex2f x y) := fun _ => ⟨rfl, rfl⟩
theorem ArgsMatchFields.vertex2ii (x y handle cellIndex : Int) : ArgsMatchFields.Statement (.vertex2ii x y handle cellIndex) := fun _ => ⟨rfl, rfl⟩
theorem ArgsMatchFields.hostActive (param : Int) : ArgsMatchFields.Statement (.hostActive param) := fun _ => ⟨rfl, rfl⟩
theorem ArgsMatchFields.hostStandby (param : Int) : ArgsMatchFields.Statement (.hostStandby param) := fun _ => ⟨rfl, rfl⟩
theorem ArgsMatchFields.hostSleep (param : Int) : ArgsMatchFields.Statement (.hostSleep param) := fun _ => ⟨rfl, rfl⟩
theorem ArgsMatchFields.hostClkext (param : Int) : ArgsMatchFields.Statement (.hostClkext param) := fun _ => ⟨rfl, rfl⟩
theorem ArgsMatchFields.hostClkint (param : Int) : ArgsMatchFields.Statement (.hostClkint param) := fun _ => ⟨rfl, rfl⟩
theorem ArgsMatchFields.hostPwrdown (param : Int) : ArgsMatchFields.Statement (.hostPwrdown param) := fun _ => ⟨rfl, rfl⟩
theorem ArgsMatchFields.hostClksel (param : Int) : ArgsMatchFields.Statement (.hostClksel param) := fun _ => ⟨rfl, rfl⟩
theorem ArgsMatchFields.hostRstPulse (param : Int) : ArgsMatchFields.Statement (.hostRstPulse param) := fun _ => ⟨rfl, rfl⟩
theorem ArgsMatchFields.hostCorerst (param : Int) : ArgsMatchFields.Statement (.hostCorerst param) := fun _ => ⟨rfl, rfl⟩
theorem ArgsMatchFields.hostPindrive (param : Int) : ArgsMatchFields.Statement (.hostPindrive param) := fun _ => ⟨rfl, rfl⟩
theorem ArgsMatchFields.hostPinPdState (param : Int) : ArgsMatchFields.Statement (.hostPinPdState param) := fun _ => ⟨rfl, rfl⟩

theorem RequestNamesInstr.display : RequestNamesInstr.Statement .display := fun _ => rfl
theorem RequestNamesInstr.bitmapSource (addr : Int) : RequestNamesInstr.Statement (.bitmapSource addr) := fun _ => rfl
theorem RequestNamesInstr.clearColorRgb (red green blue : Int) : RequestNamesInstr.Statement (.clearColorRgb red green blue) := fun _ => rfl
theorem RequestNamesInstr.tag (value : Int) : RequestNamesInstr.Statement (.tag value) := fun _ => rfl
theorem RequestNamesInstr.colorRgb (red green blue : Int) : RequestNamesInstr.Statement (.colorRgb red green blue) := fun _ => rfl
theorem RequestNamesInstr.bitmapHandle (handle : Int) : RequestNamesInstr.Statement (.bitmapHandle handle) := fun _ => rfl
theorem RequestNamesInstr.cell (cellIndex : Int) : RequestNamesInstr.Statement (.cell cellIndex) := fun _ => rfl
theorem RequestNamesInstr.bitmapLayout (fmt linestride height : Int) : RequestNamesInstr.Statement (.bitmapLayout fmt linestride height) := fun _ => rfl
theorem RequestNamesInstr.bitmapSize (filter wrapx wrapy width height : Int) : RequestNamesInstr.Statement (.bitmapSize filter wrapx wrapy width height) := fun _ => rfl
theorem RequestNamesInstr.alphaFunc (func ref : Int) : RequestNamesInstr.Statement (.alphaFunc func ref) := fun _ => rfl
theorem RequestNamesInstr.stencilFunc (func ref mask : Int) : RequestNamesInstr.Statement (.stencilFunc func ref mask) := fun _ => rfl
theorem RequestNamesInstr.blendFunc (src dst : Int) : RequestNamesInstr.Statement (.blendFunc src dst) := fun _ => rfl
theorem RequestNamesInstr.stencilOp (sfail spass : Int) : RequestNamesInstr.Statement (.stencilOp sfail spass) := fun _ => rfl
theorem RequestNamesInstr.pointSize (size : Int) : RequestNamesInstr.Statement (.pointSize size) := fun _ => rfl
theorem RequestNamesInstr.lineWidth (width : Int) : RequestNamesInstr.Statement (.lineWidth width) := fun _ => rfl
theorem RequestNamesInstr.clearColorA (alpha : Int) : RequestNamesInstr.Statement (.clearColorA alpha) := fun _ => rfl
theorem RequestNamesInstr.colorA (alpha : Int) : RequestNamesInstr.Statement (.colorA alpha) := fun _ => rfl
theorem RequestNamesInstr.clearStencil (value : Int) : RequestNamesInstr.Statement (.clearStencil value) := fun _ => rfl
theorem RequestNamesInstr.clearTag (value : Int) : RequestNamesInstr.Statement (.clearTag value) := fun _ => rfl
theorem RequestNamesInstr.stencilMask (mask : Int) : RequestNamesInstr.Statement (.stencilMask mask) := fun _ => rfl
theorem RequestNamesInstr.tagMask (mask : Int) : RequestNamesInstr.Statement (.tagMask mask) := fun _ => rfl
theorem RequestNamesInstr.bitmapTransformAG2 (a : Int) : RequestNamesInstr.Statement (.bitmapTransformAG2 a) := fun _ => rfl
theorem RequestNamesInstr.bitmapTransformAG3 (p v : Int) : RequestNamesInstr.Statement (.bitmapTransformAG3 p v) := fun _ => rfl
theorem RequestNamesInstr.bitmapTransformBG2 (b : Int) : RequestNamesInstr.Statement (.bitmapTransformBG2 b) := fun _ => rfl
theorem RequestNamesInstr.bitmapTransformBG3 (p v : Int) : RequestNamesInstr.Statement (.bitmapTransformBG3 p v) := fun _ => rfl
theorem RequestNamesInstr.bitmapTransformC (c : Int) : RequestNamesInstr.Statement (.bitmapTransformC c) := fun _ => rfl
theorem RequestNamesInstr.bitmapTransformDG2 (d : Int) : RequestNamesInstr.Statement (.bitmapTransformDG2 d) := fun _ => rfl
theorem RequestNamesInstr.bitmapTransformDG3 (p v : Int) : RequestNamesInstr.Statement (.bitmapTransformDG3 p v) := fun _ => rfl
theorem RequestNamesInstr.bitmapTransformEG2 (e : Int) : RequestNamesInstr.Statement (.bitmapTransformEG2 e) := fun _ => rfl
theorem RequestNamesInstr.bitmapTransformEG3 (p v : Int) : RequestNamesInstr.Statement (.bitmapTransformEG3 p v) := fun _ => rfl
theorem RequestNamesInstr.bitmapTransformF (f : Int) : RequestNamesInstr.Statement (.bitmapTransformF f) := fun _ => rfl
theorem RequestNamesInstr.scissorXy (x y : Int) : RequestNamesInstr.Statement (.scissorXy x y) := fun _ => rfl
theorem RequestNamesInstr.scissorSize (width height : Int) : RequestNamesInstr.Statement (.scissorSize width height) := fun _ => rfl
theorem RequestNamesInstr.call (dest : Int) : RequestNamesInstr.Statement (.call dest) := fun _ => rfl
theorem RequestNamesInstr.jump (dest : Int) : RequestNamesInstr.Statement (.jump dest) := fun _ => rfl
theorem RequestNamesInstr.beginPrim (prim : Int) : RequestNamesInstr.Statement (.beginPrim prim) := fun _ => rfl
theorem RequestNamesInstr.colorMask (r g b a : Int) : RequestNamesInstr.Statement (.colorMask r g b a) := fun _ => rfl
theorem RequestNamesInstr.endPrim : RequestNamesInstr.Statement .endPrim := fun _ => rfl
theorem RequestNamesInstr.saveContext : RequestNamesInstr.Statement .saveContext := fun _ => rfl
theorem RequestNamesInstr.restoreContext : RequestNamesInstr.Statement .restoreContext := fun _ => rfl
theorem RequestNamesInstr.ret : RequestNamesInstr.Statement .ret := fun _ => rfl
theorem RequestNamesInstr.macroReg (which : Int) : RequestNamesInstr.Statement (.macroReg which) := fun _ => rfl
theorem RequestNamesInstr.clear (cBit sBit tBit : Int) : RequestNamesInstr.Statement (.clear cBit sBit tBit) := fun _ => rfl
theorem RequestNamesInstr.vertexFormat (frac : Int) : RequestNamesInstr.Statement (.vertexFormat frac) := fun _ => rfl
theorem RequestNamesInstr.bitmapLayoutH (linestride height : Int) : RequestNamesInstr.Statement (.bitmapLayoutH linestride height) := fun _ => rfl
theorem RequestNamesInstr.bitmapSizeH (width height : Int) : RequestNamesInstr.Statement (.bitmapSizeH width height) := fun _ => rfl
theorem RequestNamesInstr.paletteSource (addr : Int) : RequestNamesInstr.Statement (.paletteSource addr) := fun _ => rfl
theorem RequestNamesInstr.vertexTranslateX (x : Int) : RequestNamesInstr.Statement (.vertexTranslateX x) := fun _ => rfl
theorem RequestNamesInstr.vertexTranslateY (y : Int) : RequestNamesInstr.Statement (.vertexTranslateY y) := fun _ => rfl
theorem RequestNamesInstr.nop : RequestNamesInstr.Statement .nop := fun _ => rfl
theorem RequestNamesInstr.bitmapExtFormat (fmt : Int) : RequestNamesInstr.Statement (.bitmapExtFormat fmt) := fun _ => rfl
theorem RequestNamesInstr.bitmapSwizzle (r g b a : Int) : RequestNamesInstr.Statement (.bitmapSwizzle r g b a) := fun _ => rfl
theorem RequestNamesInstr.vertex2f (x y : Int) : RequestNamesInstr.Statement (.vertex2f x y) := fun _ => rfl
theorem RequestNamesInstr.vertex2ii (x y handle cellIndex : Int) : RequestNamesInstr.Statement (.vertex2ii x y handle cellIndex) := fun _ => rfl
theorem RequestNamesInstr.hostActive (param : Int) : RequestNamesInstr.Statement (.hostActive param) := fun _ => rfl
theorem RequestNamesInstr.hostStandby (param : Int) : RequestNamesInstr.Statement (.hostStandby param) := fun _ => rfl
theorem RequestNamesInstr.hostSleep (param : Int) : RequestNamesInstr.Statement (.hostSleep param) := fun _ => rfl
theorem RequestNamesInstr.hostClkext (param : Int) : RequestNamesInstr.Statement (.hostClkext param) := fun _ => rfl
theorem RequestNamesInstr.hostClkint (param : Int) : RequestNamesInstr.Statement (.hostClkint param) := fun _ => rfl
theorem RequestNamesInstr.hostPwrdown (param : Int) : RequestNamesInstr.Statement (.hostPwrdown param) := fun _ => rfl
theorem RequestNamesInstr.hostClksel (param : Int) : RequestNamesInstr.Statement (.hostClksel param) := fun _ => rfl
theorem RequestNamesInstr.hostRstPulse (param : Int) : RequestNamesInstr.Statement (.hostRstPulse param) := fun _ => rfl
theorem RequestNamesInstr.hostCorerst (param : Int) : RequestNamesInstr.Statement (.hostCorerst param) := fun _ => rfl
theorem RequestNamesInstr.hostPindrive (param : Int) : RequestNamesInstr.Statement (.hostPindrive param) := fun _ => rfl
theorem RequestNamesInstr.hostPinPdState (param : Int) : RequestNamesInstr.Statement (.hostPinPdState param) := fun _ => rfl

end Sys2Proof.Laws
end

