-- ==== Sys2Proof/Laws/Tables.lean ====
section
/-! SUPPORT. Facts about the constant tables and the instructions that name their rows. -/

namespace Sys2Proof

theorem DlOp.mem_all (op : DlOp) : op ∈ DlOp.all := by
  cases op <;> decide

theorem HostCmd.mem_all (c : HostCmd) : c ∈ HostCmd.all := by
  cases c <;> decide

/-- Every field of every row lies below the header (30_encoding.md R61, R62). -/
theorem opsel_field_fits (p : Params) (op : DlOp) :
    ∀ f ∈ (opsel p op).fields, 0 < f.width ∧ f.offset + f.width ≤ operandWidth (opsel p op).format := by
  obtain ⟨wa, wb, wd, we, ws, _, _, _, _, _, _, _⟩ := p
  cases op <;> simp only [opsel] <;> first
    | decide
    | (dsimp only [rowBitmapSource]; cases ws <;> decide)
    | (dsimp only [rowBitmapTransformAG2]; cases wa <;> decide)
    | (dsimp only [rowBitmapTransformBG2]; cases wb <;> decide)
    | (dsimp only [rowBitmapTransformDG2]; cases wd <;> decide)
    | (dsimp only [rowBitmapTransformEG2]; cases we <;> decide)

theorem opsel_field_width_le (p : Params) (op : DlOp) :
    ∀ f ∈ (opsel p op).fields, f.offset + f.width ≤ 30 := by
  intro f hf
  have h := (opsel_field_fits p op f hf).2
  cases h2 : (opsel p op).format <;> rw [h2] at h <;> simp only [operandWidth] at h <;> omega

/-- The operands of an instruction that names a row are as many as the row's fields, and name it back. -/
theorem Instr.args_of_dl {i : Instr} {op : DlOp} (p : Params) (h : i.item = .dl op) :
    i.args.length = (opsel p op).fields.length ∧ instrOfOp op i.args = i := by
  cases i <;> simp only [Instr.item, ItemRef.dl.injEq, reduceCtorEq] at h <;> subst h <;> exact ⟨rfl, rfl⟩

/-- A host instruction has one operand, its parameter, and names its command back. -/
theorem Instr.args_of_host {i : Instr} {c : HostCmd} (h : i.item = .host c) :
    i.args.length = 1 ∧ instrOfHost c (i.args.getD 0 0) = i := by
  cases i <;> simp only [Instr.item, ItemRef.host.injEq, reduceCtorEq] at h <;> subst h <;> exact ⟨rfl, rfl⟩

/-- The instruction made from a row names that row. -/
theorem item_instrOfOp (op : DlOp) (args : List Int) : (instrOfOp op args).item = .dl op := by
  cases op <;> rfl

/-- The instruction made from a command names that command, with its parameter. -/
theorem item_instrOfHost (c : HostCmd) (param : Int) :
    (instrOfHost c param).item = .host c ∧ (instrOfHost c param).args = [param] := by
  cases c <;> exact ⟨rfl, rfl⟩

theorem map_getD_range (l : List Int) : (List.range l.length).map (fun k => l.getD k 0) = l := by
  apply List.ext_getElem
  · simp
  · intro k _ h
    simp [List.getD_eq_getElem?_getD, List.getElem?_eq_getElem h]

/-- The operands of the instruction made from as many operands as the row has fields are those operands. -/
theorem args_instrOfOp (p : Params) (op : DlOp) (args : List Int)
    (h : args.length = (opsel p op).fields.length) : (instrOfOp op args).args = args := by
  have hl := map_getD_range args
  rw [h] at hl
  refine Eq.trans ?_ hl
  cases op <;> rfl

end Sys2Proof
end

