-- ==== Sys2Proof/Laws/Ops.lean ====
section
/-! SUPPORT. What each port may answer: one lemma per answer function says all its outcomes, with the condition of
each, and one per operation says all it may do to the state. -/

namespace Sys2Proof.Machine

/-- Every outcome of the encoder on a row, in the order of its checks (60_exceptions.md R304). -/
theorem wordResponse_cases (p : Params) (t : Tier) (c : Bool) (op : DlOp) (args : List Int) :
    (c = false ∧ wordResponse p t c op args = .refused .unconfigured) ∨
    (c = true ∧ p.gkTableEnabled = false ∧ (opsel p op).src = .gk ∧
      wordResponse p t c op args = .refused .notInSource) ∨
    (c = true ∧ ¬ (p.gkTableEnabled = false ∧ (opsel p op).src = .gk) ∧ tierVisible (opsel p op).tiers t = false ∧
      wordResponse p t c op args =
        mismatch .instruction ⟨(opsel p op).mnemonic, (opsel p op).variant⟩ t (opsel p op).tiers) ∨
    (c = true ∧ ¬ (p.gkTableEnabled = false ∧ (opsel p op).src = .gk) ∧ tierVisible (opsel p op).tiers t = true ∧
      args.length ≠ (opsel p op).fields.length ∧ wordResponse p t c op args = .refused .arity) ∨
    (∃ f v, c = true ∧ ¬ (p.gkTableEnabled = false ∧ (opsel p op).src = .gk) ∧
      tierVisible (opsel p op).tiers t = true ∧ args.length = (opsel p op).fields.length ∧ p.strictRange = true ∧
      firstOutOfRange args (opsel p op).fields = some (f, v) ∧
      wordResponse p t c op args = .err (.operandRange (opsel p op).mnemonic f.name v)) ∨
    (c = true ∧ ¬ (p.gkTableEnabled = false ∧ (opsel p op).src = .gk) ∧ tierVisible (opsel p op).tiers t = true ∧
      args.length = (opsel p op).fields.length ∧
      (p.strictRange = true → firstOutOfRange args (opsel p op).fields = none) ∧
      wordResponse p t c op args = .ok (encodeWord p op args)) := by
  unfold wordResponse
  cases c
  · exact .inl ⟨rfl, rfl⟩
  by_cases hg : p.gkTableEnabled = false ∧ (opsel p op).src = .gk
  · exact .inr (.inl ⟨rfl, hg.1, hg.2, by simp [hg]⟩)
  cases hv : tierVisible (opsel p op).tiers t
  · exact .inr (.inr (.inl ⟨rfl, hg, rfl, by rw [if_neg (by decide), if_neg hg, if_pos rfl]⟩))
  by_cases hl : args.length = (opsel p op).fields.length
  · rw [if_neg (by decide), if_neg hg, if_neg (by decide), if_neg (not_not.mpr hl)]
    cases hs : p.strictRange
    · exact .inr (.inr (.inr (.inr (.inr ⟨rfl, hg, rfl, hl, nofun, rfl⟩))))
    · cases hf : firstOutOfRange args (opsel p op).fields with
      | none => exact .inr (.inr (.inr (.inr (.inr ⟨rfl, hg, rfl, hl, fun _ => rfl, rfl⟩))))
      | some q => exact .inr (.inr (.inr (.inr (.inl ⟨q.1, q.2, rfl, hg, rfl, hl, rfl, rfl, rfl⟩))))
  · exact .inr (.inr (.inr (.inl ⟨rfl, hg, rfl, hl, by
      rw [if_neg (by decide), if_neg hg, if_neg (by decide), if_pos hl]⟩)))

/-- When the encoder answers a word, and which (30_encoding.md R65). -/
theorem wordResponse_eq_ok {p : Params} {t : Tier} {c : Bool} {op : DlOp} {args : List Int} {w : Word}
    (h : wordResponse p t c op args = .ok w) :
    c = true ∧ tierVisible (opsel p op).tiers t = true ∧ args.length = (opsel p op).fields.length ∧
      w = encodeWord p op args := by
  rcases wordResponse_cases p t c op args with h1 | h1 | h1 | h1 | ⟨f, v, h1⟩ | h1
  · rw [h1.2] at h; cases h
  · rw [h1.2.2.2] at h; cases h
  · rw [h1.2.2.2] at h; cases h
  · rw [h1.2.2.2.2] at h; cases h
  · rw [h1.2.2.2.2.2.2] at h; cases h
  · rw [h1.2.2.2.2.2] at h; cases h; exact ⟨h1.1, h1.2.2.1, h1.2.2.2.1, rfl⟩

/-- Every outcome of the framer on a command, in the order of its checks (44_host_commands.md R231). -/
theorem frameResponse_cases (p : Params) (t : Tier) (c : Bool) (cmd : HostCmd) (v : Int) :
    (c = false ∧ frameResponse p t c cmd v = .refused .unconfigured) ∨
    (c = true ∧ tierVisible (hostRow cmd).tiers t = false ∧
      frameResponse p t c cmd v = mismatch .hostCommand ⟨(hostRow cmd).name, none⟩ t (hostRow cmd).tiers) ∨
    (c = true ∧ tierVisible (hostRow cmd).tiers t = true ∧ p.gkTableEnabled = false ∧
      frameResponse p t c cmd v = .refused .notInSource) ∨
    (c = true ∧ tierVisible (hostRow cmd).tiers t = true ∧ p.gkTableEnabled = true ∧ p.strictRange = true ∧
      ¬ (0 ≤ v ∧ v < 256) ∧ frameResponse p t c cmd v = .err (.operandRange (hostRow cmd).name "param" v)) ∨
    (c = true ∧ tierVisible (hostRow cmd).tiers t = true ∧ p.gkTableEnabled = true ∧
      (p.strictRange = true → 0 ≤ v ∧ v < 256) ∧ frameResponse p t c cmd v = .ok (encodeFrame cmd v)) := by
  unfold frameResponse
  cases c
  · exact .inl ⟨rfl, rfl⟩
  cases hv : tierVisible (hostRow cmd).tiers t
  · exact .inr (.inl ⟨rfl, rfl, rfl⟩)
  cases hg : p.gkTableEnabled
  · exact .inr (.inr (.inl ⟨rfl, rfl, rfl, rfl⟩))
  by_cases hs : p.strictRange = true ∧ ¬ (0 ≤ v ∧ v < 256)
  · exact .inr (.inr (.inr (.inl ⟨rfl, rfl, rfl, hs.1, hs.2, by simp [hs]⟩)))
  · refine .inr (.inr (.inr (.inr ⟨rfl, rfl, rfl, fun h => not_not.mp fun hn => hs ⟨h, hn⟩, ?_⟩)))
    rw [if_neg (by decide), if_neg (by decide), if_neg (by decide), if_neg hs]

/-- Every outcome of the encoder port: a refusal of the request as such, or the answer of its row
(10_state.md R22). -/
theorem encAnswer_cases (p : Params) (t : Tier) (c : Bool) (m : String) (v : Option Variant) (args : List Operand) :
    (c = false ∧ encAnswer p t c m v args = .refused .unconfigured) ∨
    (c = true ∧ intArgs args = none ∧ encAnswer p t c m v args = .refused .nonInteger) ∨
    (c = true ∧ dlOpNamed p m v = none ∧ encAnswer p t c m v args = .refused .unknownInstruction) ∨
    (∃ vs op, c = true ∧ intArgs args = some vs ∧ dlOpNamed p m v = some op ∧
      encAnswer p t c m v args = wordResponse p t c op vs) := by
  unfold encAnswer
  cases c
  · exact .inl ⟨rfl, rfl⟩
  cases ha : intArgs args with
  | none => exact .inr (.inl ⟨rfl, rfl, rfl⟩)
  | some vs =>
    cases hn : dlOpNamed p m v with
    | none => exact .inr (.inr (.inl ⟨rfl, rfl, rfl⟩))
    | some op => exact .inr (.inr (.inr ⟨vs, op, rfl, rfl, rfl, rfl⟩))

/-- Every outcome of the framer port (10_state.md R23). -/
theorem hostAnswer_cases (p : Params) (t : Tier) (c : Bool) (cmd : String) (param : Option Operand) :
    (c = false ∧ hostAnswer p t c cmd param = .refused .unconfigured) ∨
    (c = true ∧ (hostParam param).int? = none ∧ hostAnswer p t c cmd param = .refused .nonInteger) ∨
    (c = true ∧ hostCmdNamed cmd = none ∧ hostAnswer p t c cmd param = .refused .unknownHostCommand) ∨
    (∃ v h, c = true ∧ (hostParam param).int? = some v ∧ hostCmdNamed cmd = some h ∧
      hostAnswer p t c cmd param = frameResponse p t c h v) := by
  unfold hostAnswer
  cases c
  · exact .inl ⟨rfl, rfl⟩
  cases ha : (hostParam param).int? with
  | none => exact .inr (.inl ⟨rfl, rfl, rfl⟩)
  | some v =>
    cases hn : hostCmdNamed cmd with
    | none => exact .inr (.inr (.inl ⟨rfl, rfl, rfl⟩))
    | some h => exact .inr (.inr (.inr ⟨v, h, rfl, rfl, rfl, rfl⟩))

/-- Every outcome of a lookup, in the order of its checks (45_register_address_map.md R261). -/
theorem mapAnswer_cases (p : Params) (t : Tier) (c : Bool) (name : String) :
    (c = false ∧ mapAnswer p t c name = .refused .unconfigured) ∨
    (c = true ∧ mapEntryNamed name = none ∧ mapAnswer p t c name = .refused .unknownName) ∨
    (∃ e, c = true ∧ mapEntryNamed name = some e ∧ p.gkTableEnabled = false ∧ e.src = .gk ∧
      mapAnswer p t c name = .refused .notInSource) ∨
    (∃ e, c = true ∧ mapEntryNamed name = some e ∧ ¬ (p.gkTableEnabled = false ∧ e.src = .gk) ∧
      tierVisible e.tiers t = false ∧ mapAnswer p t c name = mismatch (mismatchKind e.kind) ⟨name, none⟩ t e.tiers) ∨
    (∃ e, c = true ∧ mapEntryNamed name = some e ∧ ¬ (p.gkTableEnabled = false ∧ e.src = .gk) ∧
      tierVisible e.tiers t = true ∧ mapAnswer p t c name = .ok e.value) := by
  unfold mapAnswer
  cases c
  · exact .inl ⟨rfl, rfl⟩
  cases he : mapEntryNamed name with
  | none => exact .inr (.inl ⟨rfl, rfl, rfl⟩)
  | some e =>
    by_cases hg : p.gkTableEnabled = false ∧ e.src = .gk
    · exact .inr (.inr (.inl ⟨e, rfl, rfl, hg.1, hg.2, by simp [hg]⟩))
    cases hv : tierVisible e.tiers t
    · exact .inr (.inr (.inr (.inl ⟨e, rfl, rfl, hg, hv, by simp [hg, hv]⟩)))
    · exact .inr (.inr (.inr (.inr ⟨e, rfl, rfl, hg, hv, by simp [hg, hv]⟩)))

/-- Every outcome of the region classification (20_memory.md R42). -/
theorem regionAnswer_cases (p : Params) (c : Bool) (addr : Operand) :
    (c = false ∧ regionAnswer p c addr = .refused .unconfigured) ∨
    (c = true ∧ addr.int? = none ∧ regionAnswer p c addr = .refused .nonInteger) ∨
    (∃ a, c = true ∧ addr.int? = some a ∧ (a < 0 ∨ 2 ^ 24 ≤ a) ∧ regionAnswer p c addr = .refused .addrRange) ∨
    (∃ a, c = true ∧ addr.int? = some a ∧ ¬ (a < 0 ∨ 2 ^ 24 ≤ a) ∧
      regionAnswer p c addr = .ok (.region (regionOf p a.toNat))) := by
  unfold regionAnswer
  cases c
  · exact .inl ⟨rfl, rfl⟩
  cases ha : addr.int? with
  | none => exact .inr (.inl ⟨rfl, rfl, rfl⟩)
  | some a =>
    by_cases hr : a < 0 ∨ 2 ^ 24 ≤ a
    · exact .inr (.inr (.inl ⟨a, rfl, rfl, hr, by simp only [if_neg (show ¬ true = false by decide), if_pos hr]⟩))
    · exact .inr (.inr (.inr ⟨a, rfl, rfl, hr, by simp only [if_neg (show ¬ true = false by decide), if_neg hr]⟩))

/-- Everything the reset event can do (70_reset_and_hazards.md R330). -/
theorem State.rst_cases (s : State) (o : Operand) :
    (o.int? = none ∧ s.rst o = s.driveCfg (.refused .nonInteger)) ∨
    (∃ v t, o.int? = some v ∧ normTier v = some t ∧ s.configured = true ∧ t ≠ s.tier ∧
      s.rst o = s.driveCfg (.refused .tierChange)) ∨
    (∃ v t, o.int? = some v ∧ normTier v = some t ∧ (s.configured = true → t = s.tier) ∧
      s.rst o = (s.configure t).driveCfg (.ok ())) ∨
    (∃ v, o.int? = some v ∧ normTier v = none ∧ s.configured = true ∧
      s.rst o = s.driveCfg (.refused .tierChange)) ∨
    (∃ v, o.int? = some v ∧ normTier v = none ∧ s.configured = false ∧
      s.rst o = s.unconfigure.driveCfg (.refused .illegalTier)) := by
  unfold State.rst
  cases ho : o.int? with
  | none => exact .inl ⟨rfl, rfl⟩
  | some v =>
    cases hn : normTier v with
    | none =>
      cases hc : s.configured
      · exact .inr (.inr (.inr (.inr ⟨v, rfl, hn, rfl, by simp [hn]⟩)))
      · exact .inr (.inr (.inr (.inl ⟨v, rfl, hn, rfl, by simp [hn]⟩)))
    | some t =>
      by_cases h : s.configured = true ∧ t ≠ s.tier
      · exact .inr (.inl ⟨v, t, rfl, hn, h.1, h.2, by simp [hn, h]⟩)
      · exact .inr (.inr (.inl ⟨v, t, rfl, hn, fun hc => not_not.mp fun ht => h ⟨hc, ht⟩, by
          simp only [hn, if_neg h]⟩))

/-- The legal tiers and their normalisation (10_state.md R21). -/
theorem normTier_eq_some {v : Int} {t : Tier} (h : normTier v = some t) :
    (v = 2 ∧ t = .t2) ∨ (v = 3 ∧ t = .t3) ∨ (4 ≤ v ∧ t = .t4) := by
  unfold normTier at h
  split at h
  · cases h; exact .inl ⟨by assumption, rfl⟩
  · split at h
    · cases h; exact .inr (.inl ⟨by assumption, rfl⟩)
    · split at h
      · cases h; exact .inr (.inr ⟨by assumption, rfl⟩)
      · cases h

/-- The illegal tiers are those below 2 (10_state.md R21). -/
theorem normTier_eq_none_iff (v : Int) : normTier v = none ↔ v < 2 := by
  unfold normTier
  constructor
  · intro h
    by_contra hv
    rcases (by omega : v = 2 ∨ v = 3 ∨ 4 ≤ v) with h2 | h2 | h2
    · simp [h2] at h
    · simp [h2] at h
    · rw [if_neg (by omega), if_neg (by omega), if_pos h2] at h; cases h
  · intro h
    rw [if_neg (by omega), if_neg (by omega), if_neg (by omega)]

/-- A served request changes the parameters and the queue in no case. -/
theorem State.serve_frame (s : State) (r : Request) :
    (s.serve r).params = s.params ∧ (s.serve r).requests = s.requests := by
  cases r with
  | rst o =>
    show (s.rst o).params = s.params ∧ (s.rst o).requests = s.requests
    rcases s.rst_cases o with ⟨_, h⟩ | ⟨_, _, _, _, _, _, h⟩ | ⟨_, _, _, _, _, h⟩ | ⟨_, _, _, _, h⟩ | ⟨_, _, _, _, h⟩ <;>
      rw [h] <;> exact ⟨rfl, rfl⟩
  | _ => exact ⟨rfl, rfl⟩

/-- A request other than `rst` leaves TIER and CONFIGURED (10_state.md R21, R25). -/
theorem State.serve_keeps (s : State) (r : Request) (h : ∀ o, r ≠ .rst o) :
    (s.serve r).tier = s.tier ∧ (s.serve r).configured = s.configured := by
  cases r with
  | rst o => exact absurd rfl (h o)
  | _ => exact ⟨rfl, rfl⟩

/-- A configured block keeps TIER and CONFIGURED whatever it serves (10_state.md R21). -/
theorem State.serve_configured (s : State) (r : Request) (h : s.configured = true) :
    (s.serve r).tier = s.tier ∧ (s.serve r).configured = true := by
  cases r with
  | rst o =>
    rcases s.rst_cases o with h1 | ⟨_, _, h1⟩ | ⟨_, t, h1⟩ | ⟨_, h1⟩ | ⟨_, h1⟩
    · simp [State.serve, h1.2, h]
    · simp [State.serve, h1.2.2.2.2, h]
    · simp [State.serve, h1.2.2.2, h1.2.2.1 h]
    · simp [State.serve, h1.2.2.2, h]
    · rw [h] at h1; exact absurd h1.2.2.1 (by decide)
  | _ => exact ⟨rfl, h⟩

end Sys2Proof.Machine
end

