-- ==== Sys2Proof/Laws/Step.lean ====
section
/-! SUPPORT. What exec and step do, said once: an instruction is a request to its row, and a step serves the
oldest request. -/

namespace Sys2Proof.Machine

/-- A display-list instruction is a request to the encoder on its row (30_encoding.md R65). -/
theorem exec_of_dl {i : Instr} {op : DlOp} (h : i.item = .dl op) (s : State) :
    exec i s = wordRequest op i.args s := by
  cases i <;> simp only [Instr.item, ItemRef.dl.injEq, reduceCtorEq] at h <;> subst h <;> rfl

/-- A host instruction is a request to the framer on its command (44_host_commands.md R231). -/
theorem exec_of_host {i : Instr} {c : HostCmd} (h : i.item = .host c) (s : State) :
    exec i s = frameRequest c (i.args.getD 0 0) s := by
  cases i <;> simp only [Instr.item, ItemRef.host.injEq, reduceCtorEq] at h <;> subst h <;> rfl

/-- Every instruction answers a next state (60_exceptions.md R305). -/
theorem exec_next (i : Instr) (s : State) : ∃ t, exec i s = .next t := by
  cases h : i.item with
  | dl op => exact ⟨_, exec_of_dl h s⟩
  | host c => exact ⟨_, exec_of_host h s⟩

/-- The requests that name an instruction: a known row with as many integers as it has fields, or a known
command with an integer parameter. -/
theorem instr?_eq_some {p : Params} {r : Request} {i : Instr} (h : r.instr? p = some i) :
    (∃ m v args vs op, r = .enc m v args ∧ intArgs args = some vs ∧ dlOpNamed p m v = some op ∧
      vs.length = (opsel p op).fields.length ∧ i = instrOfOp op vs) ∨
    (∃ cmd param v c, r = .host cmd param ∧ (hostParam param).int? = some v ∧ hostCmdNamed cmd = some c ∧
      i = instrOfHost c v) := by
  cases r with
  | enc m v args =>
    simp only [Request.instr?] at h
    split at h
    · next vs op h1 h2 =>
      split at h
      · next h3 => exact .inl ⟨m, v, args, vs, op, rfl, h1, h2, h3, by simpa using h.symm⟩
      · cases h
    · cases h
  | host cmd param =>
    simp only [Request.instr?] at h
    split at h
    · next v c h1 h2 => exact .inr ⟨cmd, param, v, c, rfl, h1, h2, by simpa using h.symm⟩
    · cases h
  | map _ => cases h
  | region _ => cases h
  | rst _ => cases h
  | writeTier _ => cases h

/-- The meaning of the instruction a request names is what serving the request does. -/
theorem exec_serve {r : Request} {i : Instr} {s : State} (h : r.instr? s.params = some i) :
    exec i s = .next (s.serve r) := by
  rcases instr?_eq_some h with ⟨m, v, args, vs, op, rfl, h1, h2, h3, rfl⟩ | ⟨cmd, param, v, c, rfl, h1, h2, rfl⟩
  · rw [exec_of_dl (item_instrOfOp op vs), args_instrOfOp s.params op vs h3]
    refine congrArg (fun x => Host.Outcome.next (s.driveEnc x)) ?_
    unfold encAnswer
    cases hc : s.configured
    · simp [wordResponse]
    · simp only [h1, h2, Bool.true_eq_false, if_false]
  · rw [exec_of_host (item_instrOfHost c v).1, (item_instrOfHost c v).2]
    refine congrArg (fun x => Host.Outcome.next (s.driveHost x)) ?_
    unfold hostAnswer
    cases hc : s.configured
    · simp [frameResponse]
    · simp only [h1, h2, Bool.true_eq_false, if_false]
      rfl

/-- All a step can do: idle with nothing waiting, or serve the oldest request (log entries 1, 16). -/
theorem step_cases (s : State) :
    (s.requests = [] ∧ step s = .next s) ∨
    (∃ r rest, s.requests = r :: rest ∧ step s = .next (State.serve { s with requests := rest } r)) := by
  unfold step
  cases hq : s.requests with
  | nil => exact .inl ⟨rfl, rfl⟩
  | cons r rest =>
    refine .inr ⟨r, rest, rfl, ?_⟩
    cases hi : r.instr? s.params with
    | none => simp [hi]
    | some i =>
      simp only [hi]
      exact exec_serve (s := { s with requests := rest }) hi

end Sys2Proof.Machine
end

