-- ==== Sys2Proof/Machine/Assembler.lean ====
section
/-! DEFINITION. The textual syntax of 30_encoding.md R75: one line is one request (R76). Names in operands are
looked up through the map before the request is made, since the encoder never sees names
(46_operand_constants.md R290). What the spec leaves open of the syntax is log entry 20. -/

namespace Sys2Proof.Machine

/-- One operand as written: a literal, a constant's name, or a window's name plus an offset (R75). -/
inductive ArgText where
  | literal (v : Int)
  | symbol (name : String)
  | windowOffset (name : String) (offset : Int)
  deriving DecidableEq, Repr

/-- One line as written (R75). -/
inductive LineText where
  | instruction (mnemonic : String) (variant : Option Variant) (args : List ArgText)
  | host (name : String) (param : Option ArgText)
  | lookup (name : String)
  deriving DecidableEq, Repr

/-- Why a line makes no request. -/
inductive AsmError where
  /-- The line is not of the syntax. -/
  | malformed
  /-- A name in an operand is not answered with a value; the map's own response says why. -/
  | unresolved (name : String) (answer : Response MapValue)
  /-- A name in an operand is no constant, or one with an offset is no window. -/
  | wrongKind (name : String)
  deriving DecidableEq, Repr

/-- The outcome of reading a line. -/
inductive Assembled (α : Type) where
  | done (value : α)
  | failed (e : AsmError)
  deriving DecidableEq, Repr

/-- Drop leading spaces. -/
def dropSpaces : List Char → List Char
  | ' ' :: rest => dropSpaces rest
  | cs => cs

/-- Drop spaces at both ends. -/
def trimSpaces (cs : List Char) : List Char :=
  (dropSpaces (dropSpaces cs).reverse).reverse

/-- The pieces of a text between separators, one more than there are separators. -/
def splitAtChar (sep : Char) : List Char → List (List Char)
  | [] => [[]]
  | c :: cs =>
    if c = sep then [] :: splitAtChar sep cs
    else
      match splitAtChar sep cs with
      | [] => [[c]]
      | piece :: more => (c :: piece) :: more

/-- The text before the first occurrence of a character and the text after it. -/
def cutAt (sep : Char) : List Char → Option (List Char × List Char)
  | [] => none
  | c :: cs => if c = sep then some ([], cs) else (cutAt sep cs).map fun q => (c :: q.1, q.2)

/-- The digits of a literal in the order of their values: the first ten are the decimal ones (R75). -/
def literalDigits : List Char :=
  "0123456789ABCDEF".toList

/-- The value of a digit, its place among the digits of a literal; a letter counts in either case. -/
def digitValue (c : Char) : Option Nat :=
  literalDigits.findIdx? (· == c.toUpper)

/-- Read digits of a base, most significant first, after a value already read. -/
def readDigits (base : Nat) : Nat → List Char → Option Nat
  | acc, [] => some acc
  | acc, c :: cs =>
    match digitValue c with
    | some d => if d < base then readDigits base (acc * base + d) cs else none
    | none => none

/-- A literal without sign: `0x` and hexadecimal digits, or decimal digits (R75). -/
def readNat : List Char → Option Nat
  | [] => none
  | '0' :: 'x' :: d :: ds => readDigits 16 0 (d :: ds)
  | cs => readDigits 10 0 cs

/-- An integer literal, optionally negative (R75). -/
def readInt : List Char → Option Int
  | '-' :: cs => (readNat cs).map fun n => -(n : Int)
  | cs => (readNat cs).map fun n => (n : Int)

/-- A character of a name. -/
def isNameChar (c : Char) : Bool :=
  c.isAlphanum || c == '_'

/-- A name: letters, digits and underscores, not beginning with a digit. -/
def readName : List Char → Option String
  | [] => none
  | c :: cs => if isNameChar c && !c.isDigit && cs.all isNameChar then some (String.ofList (c :: cs)) else none

/-- One operand (R75). -/
def readArg (cs : List Char) : Option ArgText :=
  match (splitAtChar '+' cs).map trimSpaces with
  | [one] =>
    match readInt one with
    | some v => some (.literal v)
    | none => (readName one).map .symbol
  | [base, offset] =>
    match readName base, readInt offset with
    | some name, some v => some (.windowOffset name v)
    | _, _ => none
  | _ => none

/-- Every element read, or none. -/
def readAll {α β : Type} (f : α → Option β) : List α → Option (List β)
  | [] => some []
  | a :: rest =>
    match f a, readAll f rest with
    | some b, some bs => some (b :: bs)
    | _, _ => none

/-- The operands between the parentheses: none for an empty text (R75). -/
def readArgs (cs : List Char) : Option (List ArgText) :=
  match trimSpaces cs with
  | [] => some []
  | text => readAll readArg (splitAtChar ',' text)

/-- A mnemonic, with the variant where it is written after it in brackets (95_test_vectors.md, notation). -/
def readMnemonic (cs : List Char) : Option (String × Option Variant) :=
  match cutAt '[' cs with
  | none => (readName cs).map fun n => (n, none)
  | some (name, ['G', '2', ']']) => (readName name).map fun n => (n, some .g2)
  | some (name, ['G', '3', ']']) => (readName name).map fun n => (n, some .g3)
  | some _ => none

/-- Whether a mnemonic has two variants (42_dl_bitmap.md R169). -/
def hasVariants (p : Params) (mnemonic : String) : Bool :=
  DlOp.all.any fun op => (opsel p op).mnemonic == mnemonic && (opsel p op).variant.isSome

/-- The variant the number of operands shows (R75); none where it shows none (log entry 20). -/
def impliedVariant (p : Params) (mnemonic : String) (count : Nat) : Option Variant :=
  if hasVariants p mnemonic then
    (if count = 1 then some .g2 else if count = 2 then some .g3 else none)
  else none

/-- The text of a call's operands: what stands between the opening parenthesis and the closing one, which ends
the line. -/
def callBody (cs : List Char) : Option (List Char) :=
  match cs.reverse with
  | ')' :: body => some body.reverse
  | _ => none

/-- One line of the syntax (R75). -/
def readLine (p : Params) (line : String) : Option LineText :=
  let cs := trimSpaces line.toList
  match cutAt '(' cs with
  | none => (readName cs).map .lookup
  | some (head, tail) =>
    match callBody tail with
    | none => none
    | some body =>
      if trimSpaces head = "HOST".toList then
        match (splitAtChar ',' body).map trimSpaces with
        | [name] => (readName name).map fun n => .host n none
        | [name, param] =>
          match readName name, readArg param with
          | some n, some a => some (.host n (some a))
          | _, _ => none
        | _ => none
      else
        match readMnemonic (trimSpaces head), readArgs body with
        | some (m, none), some args => some (.instruction m (impliedVariant p m args.length) args)
        | some (m, some v), some args => some (.instruction m (some v) args)
        | _, _ => none

/-- The integer an operand stands for, its name looked up by the caller through the map
(46_operand_constants.md R290, 20_memory.md R44). -/
def resolveArg (p : Params) (t : Tier) (configured : Bool) : ArgText → Assembled Operand
  | .literal v => .done (.int v)
  | .symbol name =>
    match mapAnswer p t configured name with
    | .ok (.constant v) => .done (.int v)
    | .ok _ => .failed (.wrongKind name)
    | answer => .failed (.unresolved name answer)
  | .windowOffset name offset =>
    match mapAnswer p t configured name with
    | .ok (.address a) =>
      if (windowOrder.map windowName).contains name then .done (.int (a.toNat + offset))
      else .failed (.wrongKind name)
    | .ok _ => .failed (.wrongKind name)
    | answer => .failed (.unresolved name answer)

/-- Every operand resolved, or the first failure in operand order. -/
def resolveArgs (p : Params) (t : Tier) (configured : Bool) : List ArgText → Assembled (List Operand)
  | [] => .done []
  | a :: rest =>
    match resolveArg p t configured a with
    | .failed e => .failed e
    | .done o =>
      match resolveArgs p t configured rest with
      | .failed e => .failed e
      | .done os => .done (o :: os)

/-- The request a line stands for (R75, R76). -/
def assembleLine (p : Params) (t : Tier) (configured : Bool) (line : String) : Assembled Request :=
  match readLine p line with
  | none => .failed .malformed
  | some (.lookup name) => .done (.map name)
  | some (.host name none) => .done (.host name none)
  | some (.host name (some a)) =>
    match resolveArg p t configured a with
    | .failed e => .failed e
    | .done o => .done (.host name (some o))
  | some (.instruction mnemonic variant args) =>
    match resolveArgs p t configured args with
    | .failed e => .failed e
    | .done os => .done (.enc mnemonic variant os)

/-- A caller hands a line to the block: its request joins the queue, or the line is not understood. -/
def State.submitLine (s : State) (line : String) : Assembled State :=
  match assembleLine s.params s.tier s.configured line with
  | .done r => .done (s.submit r)
  | .failed e => .failed e

end Sys2Proof.Machine
end

