-- ==== Sys2Proof/Tests/Slice0.lean ====
section
/-! SUPPORT. The model's own tests, each a named theorem. Every expected value comes from the spec: a rule's
Example line, a vector of 95_test_vectors.md, or a word written out bit by bit from the encoding of the rule. -/

namespace Sys2Proof.Tests

open Sys2Proof Sys2Proof.Machine Sys2Proof.Safety

/-- A configured block at a tier, with the parameters the spec's examples are computed under. -/
def blockAt (t : Tier) : State :=
  { State.reset with tier := t, configured := true, params := vectorParams }

/-- The same under STRICT_RANGE. -/
def strictAt (t : Tier) : State :=
  { blockAt t with params := { vectorParams with strictRange := true } }

/-- The same with GK_TABLE_ENABLED false. -/
def sourceOnlyAt (t : Tier) : State :=
  { blockAt t with params := { vectorParams with gkTableEnabled := false } }

/-- The next state, if the outcome is one. -/
def after (o : Host.Outcome State Fault Refusal) : Option State :=
  match o with
  | .next s => some s
  | _ => none

/-- What the encoder port holds after an instruction. -/
def wordAfter (i : Instr) (s : State) : Option (Response Word) :=
  (after (exec i s)).bind State.encOut

/-- What the framer port holds after an instruction. -/
def frameAfter (i : Instr) (s : State) : Option (Response Frame) :=
  (after (exec i s)).bind State.hostOut

/-- The block after one step on a request. -/
def served (s : State) (r : Request) : Option State :=
  after (step { s with requests := [r] })

/-! WellFormed: a term each check refuses, and one it accepts. -/

theorem test_wf_accepts : (Instr.vertex2ii 511 0 31 127).wellFormed vectorParams = true := by decide
theorem test_wf_negative_operand : (Instr.beginPrim (-1)).wellFormed vectorParams = false := by decide
theorem test_wf_operand_too_wide : (Instr.vertex2ii 512 0 0 0).wellFormed vectorParams = false := by decide
theorem test_wf_later_operand : (Instr.colorRgb 0 0 256).wellFormed vectorParams = false := by decide
theorem test_wf_open_width :
    (Instr.bitmapTransformAG2 0x20000).wellFormed vectorParams = false ∧
    (Instr.bitmapTransformAG2 0x20000).wellFormed { vectorParams with xformWidthA := .w24 } = true := by decide
theorem test_wf_host_param_negative : (Instr.hostClksel (-1)).wellFormed vectorParams = false := by decide
theorem test_wf_host_param_too_wide : (Instr.hostClksel 256).wellFormed vectorParams = false := by decide
theorem test_wf_operand_count : argsFit [1] [] = false ∧ argsFit [] [⟨"prim", 4, 0, false⟩] = false := by decide

/-! Decoding: for every constructor one word written out from the spec's encoding of it, bits grouped as the
fields are: opcode or discriminator, unused bits, fields. -/

theorem test_decode_display :
    decodeWord vectorParams .t2 (0b00000000#8 ++ 0b000000000000000000000000#24) = .instr (.display) := by decide
theorem test_decode_bitmapSource :
    decodeWord vectorParams .t2 (0b00000001#8 ++ 0b00#2 ++ 0b1011001110001111000011#22) = .instr (.bitmapSource 0b1011001110001111000011) := by decide
theorem test_decode_clearColorRgb :
    decodeWord vectorParams .t2 (0b00000010#8 ++ 0b10110011#8 ++ 0b11001010#8 ++ 0b10001101#8) = .instr (.clearColorRgb 0b10110011 0b11001010 0b10001101) := by decide
theorem test_decode_tag :
    decodeWord vectorParams .t2 (0b00000011#8 ++ 0b0000000000000000#16 ++ 0b10110011#8) = .instr (.tag 0b10110011) := by decide
theorem test_decode_colorRgb :
    decodeWord vectorParams .t2 (0b00000100#8 ++ 0b10110011#8 ++ 0b11001010#8 ++ 0b10001101#8) = .instr (.colorRgb 0b10110011 0b11001010 0b10001101) := by decide
theorem test_decode_bitmapHandle :
    decodeWord vectorParams .t2 (0b00000101#8 ++ 0b0000000000000000000#19 ++ 0b10110#5) = .instr (.bitmapHandle 0b10110) := by decide
theorem test_decode_cell :
    decodeWord vectorParams .t2 (0b00000110#8 ++ 0b00000000000000000#17 ++ 0b1011001#7) = .instr (.cell 0b1011001) := by decide
theorem test_decode_bitmapLayout :
    decodeWord vectorParams .t2 (0b00000111#8 ++ 0b10110#5 ++ 0b1100101000#10 ++ 0b100011010#9) = .instr (.bitmapLayout 0b10110 0b1100101000 0b100011010) := by decide
theorem test_decode_bitmapSize :
    decodeWord vectorParams .t2 (0b00001000#8 ++ 0b000#3 ++ 0b1#1 ++ 0b0#1 ++ 0b1#1 ++ 0b101001110#9 ++ 0b111010011#9) = .instr (.bitmapSize 0b1 0b0 0b1 0b101001110 0b111010011) := by decide
theorem test_decode_alphaFunc :
    decodeWord vectorParams .t2 (0b00001001#8 ++ 0b0000000000000#13 ++ 0b101#3 ++ 0b11001010#8) = .instr (.alphaFunc 0b101 0b11001010) := by decide
theorem test_decode_stencilFunc :
    decodeWord vectorParams .t2 (0b00001010#8 ++ 0b0000#4 ++ 0b1011#4 ++ 0b11001010#8 ++ 0b10001101#8) = .instr (.stencilFunc 0b1011 0b11001010 0b10001101) := by decide
theorem test_decode_blendFunc :
    decodeWord vectorParams .t2 (0b00001011#8 ++ 0b000000000000000000#18 ++ 0b101#3 ++ 0b110#3) = .instr (.blendFunc 0b101 0b110) := by decide
theorem test_decode_stencilOp :
    decodeWord vectorParams .t2 (0b00001100#8 ++ 0b000000000000000000#18 ++ 0b101#3 ++ 0b110#3) = .instr (.stencilOp 0b101 0b110) := by decide
theorem test_decode_pointSize :
    decodeWord vectorParams .t2 (0b00001101#8 ++ 0b00000000000#11 ++ 0b1011001110001#13) = .instr (.pointSize 0b1011001110001) := by decide
theorem test_decode_lineWidth :
    decodeWord vectorParams .t2 (0b00001110#8 ++ 0b000000000000#12 ++ 0b101100111000#12) = .instr (.lineWidth 0b101100111000) := by decide
theorem test_decode_clearColorA :
    decodeWord vectorParams .t2 (0b00001111#8 ++ 0b0000000000000000#16 ++ 0b10110011#8) = .instr (.clearColorA 0b10110011) := by decide
theorem test_decode_colorA :
    decodeWord vectorParams .t2 (0b00010000#8 ++ 0b0000000000000000#16 ++ 0b10110011#8) = .instr (.colorA 0b10110011) := by decide
theorem test_decode_clearStencil :
    decodeWord vectorParams .t2 (0b00010001#8 ++ 0b0000000000000000#16 ++ 0b10110011#8) = .instr (.clearStencil 0b10110011) := by decide
theorem test_decode_clearTag :
    decodeWord vectorParams .t2 (0b00010010#8 ++ 0b0000000000000000#16 ++ 0b10110011#8) = .instr (.clearTag 0b10110011) := by decide
theorem test_decode_stencilMask :
    decodeWord vectorParams .t2 (0b00010011#8 ++ 0b0000000000000000#16 ++ 0b10110011#8) = .instr (.stencilMask 0b10110011) := by decide
theorem test_decode_tagMask :
    decodeWord vectorParams .t2 (0b00010100#8 ++ 0b00000000000000000000000#23 ++ 0b1#1) = .instr (.tagMask 0b1) := by decide
theorem test_decode_bitmapTransformAG2 :
    decodeWord vectorParams .t2 (0b00010101#8 ++ 0b0000000#7 ++ 0b10110011100011110#17) = .instr (.bitmapTransformAG2 0b10110011100011110) := by decide
theorem test_decode_bitmapTransformAG3 :
    decodeWord vectorParams .t3 (0b00010101#8 ++ 0b000000#6 ++ 0b1#1 ++ 0b11001010001110000#17) = .instr (.bitmapTransformAG3 0b1 0b11001010001110000) := by decide
theorem test_decode_bitmapTransformBG2 :
    decodeWord vectorParams .t2 (0b00010110#8 ++ 0b0000000#7 ++ 0b10110011100011110#17) = .instr (.bitmapTransformBG2 0b10110011100011110) := by decide
theorem test_decode_bitmapTransformBG3 :
    decodeWord vectorParams .t3 (0b00010110#8 ++ 0b000000#6 ++ 0b1#1 ++ 0b11001010001110000#17) = .instr (.bitmapTransformBG3 0b1 0b11001010001110000) := by decide
theorem test_decode_bitmapTransformC :
    decodeWord vectorParams .t2 (0b00010111#8 ++ 0b101100111000111100001111#24) = .instr (.bitmapTransformC 0b101100111000111100001111) := by decide
theorem test_decode_bitmapTransformDG2 :
    decodeWord vectorParams .t2 (0b00011000#8 ++ 0b0000000#7 ++ 0b10110011100011110#17) = .instr (.bitmapTransformDG2 0b10110011100011110) := by decide
theorem test_decode_bitmapTransformDG3 :
    decodeWord vectorParams .t3 (0b00011000#8 ++ 0b000000#6 ++ 0b1#1 ++ 0b11001010001110000#17) = .instr (.bitmapTransformDG3 0b1 0b11001010001110000) := by decide
theorem test_decode_bitmapTransformEG2 :
    decodeWord vectorParams .t2 (0b00011001#8 ++ 0b0000000#7 ++ 0b10110011100011110#17) = .instr (.bitmapTransformEG2 0b10110011100011110) := by decide
theorem test_decode_bitmapTransformEG3 :
    decodeWord vectorParams .t3 (0b00011001#8 ++ 0b000000#6 ++ 0b1#1 ++ 0b11001010001110000#17) = .instr (.bitmapTransformEG3 0b1 0b11001010001110000) := by decide
theorem test_decode_bitmapTransformF :
    decodeWord vectorParams .t2 (0b00011010#8 ++ 0b101100111000111100001111#24) = .instr (.bitmapTransformF 0b101100111000111100001111) := by decide
theorem test_decode_scissorXy :
    decodeWord vectorParams .t2 (0b00011011#8 ++ 0b00#2 ++ 0b10110011100#11 ++ 0b11001010001#11) = .instr (.scissorXy 0b10110011100 0b11001010001) := by decide
theorem test_decode_scissorSize :
    decodeWord vectorParams .t2 (0b00011100#8 ++ 0b101100111000#12 ++ 0b110010100011#12) = .instr (.scissorSize 0b101100111000 0b110010100011) := by decide
theorem test_decode_call :
    decodeWord vectorParams .t2 (0b00011101#8 ++ 0b00000000#8 ++ 0b1011001110001111#16) = .instr (.call 0b1011001110001111) := by decide
theorem test_decode_jump :
    decodeWord vectorParams .t2 (0b00011110#8 ++ 0b00000000#8 ++ 0b1011001110001111#16) = .instr (.jump 0b1011001110001111) := by decide
theorem test_decode_beginPrim :
    decodeWord vectorParams .t2 (0b00011111#8 ++ 0b00000000000000000000#20 ++ 0b1011#4) = .instr (.beginPrim 0b1011) := by decide
theorem test_decode_colorMask :
    decodeWord vectorParams .t2 (0b00100000#8 ++ 0b00000000000000000000#20 ++ 0b1#1 ++ 0b0#1 ++ 0b0#1 ++ 0b1#1) = .instr (.colorMask 0b1 0b0 0b0 0b1) := by decide
theorem test_decode_endPrim :
    decodeWord vectorParams .t2 (0b00100001#8 ++ 0b000000000000000000000000#24) = .instr (.endPrim) := by decide
theorem test_decode_saveContext :
    decodeWord vectorParams .t2 (0b00100010#8 ++ 0b000000000000000000000000#24) = .instr (.saveContext) := by decide
theorem test_decode_restoreContext :
    decodeWord vectorParams .t2 (0b00100011#8 ++ 0b000000000000000000000000#24) = .instr (.restoreContext) := by decide
theorem test_decode_ret :
    decodeWord vectorParams .t2 (0b00100100#8 ++ 0b000000000000000000000000#24) = .instr (.ret) := by decide
theorem test_decode_macroReg :
    decodeWord vectorParams .t2 (0b00100101#8 ++ 0b00000000000000000000000#23 ++ 0b1#1) = .instr (.macroReg 0b1) := by decide
theorem test_decode_clear :
    decodeWord vectorParams .t2 (0b00100110#8 ++ 0b000000000000000000000#21 ++ 0b1#1 ++ 0b0#1 ++ 0b1#1) = .instr (.clear 0b1 0b0 0b1) := by decide
theorem test_decode_vertexFormat :
    decodeWord vectorParams .t2 (0b00100111#8 ++ 0b000000000000000000000#21 ++ 0b101#3) = .instr (.vertexFormat 0b101) := by decide
theorem test_decode_bitmapLayoutH :
    decodeWord vectorParams .t2 (0b00101000#8 ++ 0b00000000000000000000#20 ++ 0b10#2 ++ 0b11#2) = .instr (.bitmapLayoutH 0b10 0b11) := by decide
theorem test_decode_bitmapSizeH :
    decodeWord vectorParams .t2 (0b00101001#8 ++ 0b00000000000000000000#20 ++ 0b10#2 ++ 0b11#2) = .instr (.bitmapSizeH 0b10 0b11) := by decide
theorem test_decode_paletteSource :
    decodeWord vectorParams .t2 (0b00101010#8 ++ 0b00#2 ++ 0b1011001110001111000011#22) = .instr (.paletteSource 0b1011001110001111000011) := by decide
theorem test_decode_vertexTranslateX :
    decodeWord vectorParams .t2 (0b00101011#8 ++ 0b0000000#7 ++ 0b10110011100011110#17) = .instr (.vertexTranslateX 0b10110011100011110) := by decide
theorem test_decode_vertexTranslateY :
    decodeWord vectorParams .t2 (0b00101100#8 ++ 0b0000000#7 ++ 0b10110011100011110#17) = .instr (.vertexTranslateY 0b10110011100011110) := by decide
theorem test_decode_nop :
    decodeWord vectorParams .t2 (0b00101101#8 ++ 0b000000000000000000000000#24) = .instr (.nop) := by decide
theorem test_decode_bitmapExtFormat :
    decodeWord vectorParams .t3 (0b00101110#8 ++ 0b00000000#8 ++ 0b1011001110001111#16) = .instr (.bitmapExtFormat 0b1011001110001111) := by decide
theorem test_decode_bitmapSwizzle :
    decodeWord vectorParams .t3 (0b00101111#8 ++ 0b000000000000#12 ++ 0b101#3 ++ 0b110#3 ++ 0b100#3 ++ 0b101#3) = .instr (.bitmapSwizzle 0b101 0b110 0b100 0b101) := by decide
theorem test_decode_vertex2f :
    decodeWord vectorParams .t2 (0b01#2 ++ 0b101100111000111#15 ++ 0b110010100011100#15) = .instr (.vertex2f 0b101100111000111 0b110010100011100) := by decide
theorem test_decode_vertex2ii :
    decodeWord vectorParams .t2 (0b10#2 ++ 0b101100111#9 ++ 0b110010100#9 ++ 0b10001#5 ++ 0b1010011#7) = .instr (.vertex2ii 0b101100111 0b110010100 0b10001 0b1010011) := by decide
theorem test_decode_hostActive :
    decodeFrame .t4 ⟨0b00000000#8, 0b10110010#8⟩ = .instr (.hostActive 0b10110010) := by decide
theorem test_decode_hostStandby :
    decodeFrame .t4 ⟨0b01000001#8, 0b10110010#8⟩ = .instr (.hostStandby 0b10110010) := by decide
theorem test_decode_hostSleep :
    decodeFrame .t4 ⟨0b01000010#8, 0b10110010#8⟩ = .instr (.hostSleep 0b10110010) := by decide
theorem test_decode_hostClkext :
    decodeFrame .t4 ⟨0b01000100#8, 0b10110010#8⟩ = .instr (.hostClkext 0b10110010) := by decide
theorem test_decode_hostClkint :
    decodeFrame .t3 ⟨0b01001000#8, 0b10110010#8⟩ = .instr (.hostClkint 0b10110010) := by decide
theorem test_decode_hostPwrdown :
    decodeFrame .t4 ⟨0b01010000#8, 0b10110010#8⟩ = .instr (.hostPwrdown 0b10110010) := by decide
theorem test_decode_hostClksel :
    decodeFrame .t4 ⟨0b01100001#8, 0b10110010#8⟩ = .instr (.hostClksel 0b10110010) := by decide
theorem test_decode_hostRstPulse :
    decodeFrame .t4 ⟨0b01101000#8, 0b10110010#8⟩ = .instr (.hostRstPulse 0b10110010) := by decide
theorem test_decode_hostCorerst :
    decodeFrame .t4 ⟨0b01101000#8, 0b10110010#8⟩ = .instr (.hostRstPulse 0b10110010) := by decide
theorem test_decode_hostPindrive :
    decodeFrame .t4 ⟨0b01110000#8, 0b10110010#8⟩ = .instr (.hostPindrive 0b10110010) := by decide
theorem test_decode_hostPinPdState :
    decodeFrame .t4 ⟨0b01110001#8, 0b10110010#8⟩ = .instr (.hostPinPdState 0b10110010) := by decide

/-! Each instruction once, on the Example line of its rule (for HOST_CORERST the rule's statement that both names
give the same frame). -/

theorem test_exec_display : wordAfter (.display) (blockAt .t2) = some (.ok 0x00000000#32) := by decide
theorem test_exec_bitmapSource : wordAfter (.bitmapSource 0x1000) (blockAt .t2) = some (.ok 0x01001000#32) := by decide
theorem test_exec_clearColorRgb : wordAfter (.clearColorRgb 255 128 1) (blockAt .t2) = some (.ok 0x02FF8001#32) := by decide
theorem test_exec_tag : wordAfter (.tag 1) (blockAt .t2) = some (.ok 0x03000001#32) := by decide
theorem test_exec_colorRgb : wordAfter (.colorRgb 255 0 0) (blockAt .t2) = some (.ok 0x04FF0000#32) := by decide
theorem test_exec_bitmapHandle : wordAfter (.bitmapHandle 31) (blockAt .t2) = some (.ok 0x0500001F#32) := by decide
theorem test_exec_cell : wordAfter (.cell 127) (blockAt .t2) = some (.ok 0x0600007F#32) := by decide
theorem test_exec_bitmapLayout : wordAfter (.bitmapLayout 7 400 200) (blockAt .t2) = some (.ok 0x073B20C8#32) := by decide
theorem test_exec_bitmapSize : wordAfter (.bitmapSize 0 0 0 100 100) (blockAt .t2) = some (.ok 0x0800C864#32) := by decide
theorem test_exec_alphaFunc : wordAfter (.alphaFunc 3 128) (blockAt .t2) = some (.ok 0x09000380#32) := by decide
theorem test_exec_stencilFunc : wordAfter (.stencilFunc 7 0 255) (blockAt .t2) = some (.ok 0x0A0700FF#32) := by decide
theorem test_exec_blendFunc : wordAfter (.blendFunc 2 4) (blockAt .t2) = some (.ok 0x0B000014#32) := by decide
theorem test_exec_stencilOp : wordAfter (.stencilOp 1 1) (blockAt .t2) = some (.ok 0x0C000009#32) := by decide
theorem test_exec_pointSize : wordAfter (.pointSize 320) (blockAt .t2) = some (.ok 0x0D000140#32) := by decide
theorem test_exec_lineWidth : wordAfter (.lineWidth 16) (blockAt .t2) = some (.ok 0x0E000010#32) := by decide
theorem test_exec_clearColorA : wordAfter (.clearColorA 255) (blockAt .t2) = some (.ok 0x0F0000FF#32) := by decide
theorem test_exec_colorA : wordAfter (.colorA 128) (blockAt .t2) = some (.ok 0x10000080#32) := by decide
theorem test_exec_clearStencil : wordAfter (.clearStencil 255) (blockAt .t2) = some (.ok 0x110000FF#32) := by decide
theorem test_exec_clearTag : wordAfter (.clearTag 255) (blockAt .t2) = some (.ok 0x120000FF#32) := by decide
theorem test_exec_stencilMask : wordAfter (.stencilMask 255) (blockAt .t2) = some (.ok 0x130000FF#32) := by decide
theorem test_exec_tagMask : wordAfter (.tagMask 1) (blockAt .t2) = some (.ok 0x14000001#32) := by decide
theorem test_exec_bitmapTransformAG2 : wordAfter (.bitmapTransformAG2 256) (blockAt .t2) = some (.ok 0x15000100#32) := by decide
theorem test_exec_bitmapTransformAG3 : wordAfter (.bitmapTransformAG3 1 0x8000) (blockAt .t3) = some (.ok 0x15028000#32) := by decide
theorem test_exec_bitmapTransformBG2 : wordAfter (.bitmapTransformBG2 0) (blockAt .t2) = some (.ok 0x16000000#32) := by decide
theorem test_exec_bitmapTransformBG3 : wordAfter (.bitmapTransformBG3 1 0) (blockAt .t3) = some (.ok 0x16020000#32) := by decide
theorem test_exec_bitmapTransformC : wordAfter (.bitmapTransformC 0) (blockAt .t2) = some (.ok 0x17000000#32) := by decide
theorem test_exec_bitmapTransformDG2 : wordAfter (.bitmapTransformDG2 0) (blockAt .t2) = some (.ok 0x18000000#32) := by decide
theorem test_exec_bitmapTransformDG3 : wordAfter (.bitmapTransformDG3 0 0) (blockAt .t3) = some (.ok 0x18000000#32) := by decide
theorem test_exec_bitmapTransformEG2 : wordAfter (.bitmapTransformEG2 256) (blockAt .t2) = some (.ok 0x19000100#32) := by decide
theorem test_exec_bitmapTransformEG3 : wordAfter (.bitmapTransformEG3 1 0x8000) (blockAt .t3) = some (.ok 0x19028000#32) := by decide
theorem test_exec_bitmapTransformF : wordAfter (.bitmapTransformF (-256)) (blockAt .t2) = some (.ok 0x1AFFFF00#32) := by decide
theorem test_exec_scissorXy : wordAfter (.scissorXy 100 50) (blockAt .t2) = some (.ok 0x1B032032#32) := by decide
theorem test_exec_scissorSize : wordAfter (.scissorSize 800 480) (blockAt .t2) = some (.ok 0x1C3201E0#32) := by decide
theorem test_exec_call : wordAfter (.call 0x7FF) (blockAt .t2) = some (.ok 0x1D0007FF#32) := by decide
theorem test_exec_jump : wordAfter (.jump 10) (blockAt .t2) = some (.ok 0x1E00000A#32) := by decide
theorem test_exec_beginPrim : wordAfter (.beginPrim 9) (blockAt .t2) = some (.ok 0x1F000009#32) := by decide
theorem test_exec_colorMask : wordAfter (.colorMask 1 1 1 1) (blockAt .t2) = some (.ok 0x2000000F#32) := by decide
theorem test_exec_endPrim : wordAfter (.endPrim) (blockAt .t2) = some (.ok 0x21000000#32) := by decide
theorem test_exec_saveContext : wordAfter (.saveContext) (blockAt .t2) = some (.ok 0x22000000#32) := by decide
theorem test_exec_restoreContext : wordAfter (.restoreContext) (blockAt .t2) = some (.ok 0x23000000#32) := by decide
theorem test_exec_ret : wordAfter (.ret) (blockAt .t2) = some (.ok 0x24000000#32) := by decide
theorem test_exec_macroReg : wordAfter (.macroReg 1) (blockAt .t2) = some (.ok 0x25000001#32) := by decide
theorem test_exec_clear : wordAfter (.clear 1 1 1) (blockAt .t2) = some (.ok 0x26000007#32) := by decide
theorem test_exec_vertexFormat : wordAfter (.vertexFormat 4) (blockAt .t2) = some (.ok 0x27000004#32) := by decide
theorem test_exec_bitmapLayoutH : wordAfter (.bitmapLayoutH 0 1) (blockAt .t2) = some (.ok 0x28000001#32) := by decide
theorem test_exec_bitmapSizeH : wordAfter (.bitmapSizeH 1 0) (blockAt .t2) = some (.ok 0x29000004#32) := by decide
theorem test_exec_paletteSource : wordAfter (.paletteSource 0) (blockAt .t2) = some (.ok 0x2A000000#32) := by decide
theorem test_exec_vertexTranslateX : wordAfter (.vertexTranslateX 256) (blockAt .t2) = some (.ok 0x2B000100#32) := by decide
theorem test_exec_vertexTranslateY : wordAfter (.vertexTranslateY 0xFFFF) (blockAt .t2) = some (.ok 0x2C00FFFF#32) := by decide
theorem test_exec_nop : wordAfter (.nop) (blockAt .t2) = some (.ok 0x2D000000#32) := by decide
theorem test_exec_bitmapExtFormat : wordAfter (.bitmapExtFormat 0x93B0) (blockAt .t3) = some (.ok 0x2E0093B0#32) := by decide
theorem test_exec_bitmapSwizzle : wordAfter (.bitmapSwizzle 2 3 4 5) (blockAt .t3) = some (.ok 0x2F0004E5#32) := by decide
theorem test_exec_vertex2f : wordAfter (.vertex2f 10 10) (blockAt .t2) = some (.ok 0x4005000A#32) := by decide
theorem test_exec_vertex2ii : wordAfter (.vertex2ii 100 100 0 0) (blockAt .t2) = some (.ok 0x8C864000#32) := by decide
theorem test_exec_hostActive : frameAfter (.hostActive 0) (blockAt .t2) = some (.ok ⟨0x00#8, 0x00#8⟩) := by decide
theorem test_exec_hostStandby : frameAfter (.hostStandby 0) (blockAt .t2) = some (.ok ⟨0x41#8, 0x00#8⟩) := by decide
theorem test_exec_hostSleep : frameAfter (.hostSleep 0) (blockAt .t2) = some (.ok ⟨0x42#8, 0x00#8⟩) := by decide
theorem test_exec_hostClkext : frameAfter (.hostClkext 0) (blockAt .t4) = some (.ok ⟨0x44#8, 0x00#8⟩) := by decide
theorem test_exec_hostClkint : frameAfter (.hostClkint 0) (blockAt .t3) = some (.ok ⟨0x48#8, 0x00#8⟩) := by decide
theorem test_exec_hostPwrdown : frameAfter (.hostPwrdown 0) (blockAt .t2) = some (.ok ⟨0x50#8, 0x00#8⟩) := by decide
theorem test_exec_hostClksel : frameAfter (.hostClksel 0x46) (blockAt .t2) = some (.ok ⟨0x61#8, 0x46#8⟩) := by decide
theorem test_exec_hostRstPulse : frameAfter (.hostRstPulse 0) (blockAt .t2) = some (.ok ⟨0x68#8, 0x00#8⟩) := by decide
theorem test_exec_hostCorerst : frameAfter (.hostCorerst 0) (blockAt .t2) = some (.ok ⟨0x68#8, 0x00#8⟩) := by decide
theorem test_exec_hostPindrive : frameAfter (.hostPindrive 0x2A) (blockAt .t2) = some (.ok ⟨0x70#8, 0x2A#8⟩) := by decide
theorem test_exec_hostPinPdState : frameAfter (.hostPinPdState 0x01) (blockAt .t2) = some (.ok ⟨0x71#8, 0x01#8⟩) := by decide

/-! Errors, refusals and parameters (95_test_vectors.md L2, P3, P6). -/

theorem test_truncation : wordAfter (.colorRgb 300 0 0) (blockAt .t2) = some (.ok 0x042C0000#32) := by decide
theorem test_strict_first_operand :
    wordAfter (.colorRgb 256 (-1) 0) (strictAt .t2) = some (.err (.operandRange "COLOR_RGB" "red" 256)) := by decide
theorem test_strict_signed_minimum :
    wordAfter (.vertex2f (-16384) 32767) (strictAt .t2) = some (.ok 0x60007FFF#32) ∧
    wordAfter (.vertex2f (-16385) 0) (strictAt .t2) = some (.err (.operandRange "VERTEX2F" "x" (-16385))) := by decide
theorem test_tier_before_range :
    wordAfter (.bitmapSwizzle 2 3 4 8) (strictAt .t2) =
      some (.err (.generationMismatch .instruction ⟨"BITMAP_SWIZZLE", none⟩ 2 3 none)) := by decide
theorem test_withdrawn_variant :
    wordAfter (.bitmapTransformAG2 256) (blockAt .t3) =
      some (.err (.generationMismatch .instruction ⟨"BITMAP_TRANSFORM_A", some .g2⟩ 3 2 (some 2))) := by decide
theorem test_open_width_24 :
    wordAfter (.bitmapTransformAG2 (-256)) { blockAt .t2 with params := { vectorParams with xformWidthA := .w24 } } =
      some (.ok 0x15FFFF00#32) := by decide
theorem test_source_width_24 :
    wordAfter (.bitmapSource 0x800123) { blockAt .t2 with params := { vectorParams with bitmapSourceWidth := .w24 } } =
      some (.ok 0x01800123#32) := by decide
theorem test_gk_row_off : wordAfter .display (sourceOnlyAt .t2) = some (.refused .notInSource) := by decide
theorem test_clkint_tier4 :
    frameAfter (.hostClkint 300) (strictAt .t4) =
      some (.err (.generationMismatch .hostCommand ⟨"CLKINT", none⟩ 4 2 (some 3))) := by decide
theorem test_host_values_off : frameAfter (.hostActive 0) (sourceOnlyAt .t2) = some (.refused .notInSource) := by decide
theorem test_host_strict :
    frameAfter (.hostStandby (-1)) (strictAt .t2) = some (.err (.operandRange "STANDBY" "param" (-1))) := by decide
theorem test_error_codes :
    (errorCode (.generationMismatch .instruction ⟨"", none⟩ 2 3 none) = 1) ∧
    (errorCode (.generationMismatch .hostCommand ⟨"", none⟩ 4 2 (some 3)) = 2) ∧
    (errorCode (.generationMismatch .registerOrWindow ⟨"", none⟩ 2 3 none) = 3) ∧
    (errorCode (.generationMismatch .constant ⟨"", none⟩ 2 3 none) = 4) ∧
    (errorCode (.operandRange "" "" 0) = 5) := by decide

/-! Requests (95_test_vectors.md L2, 60_exceptions.md R303). -/

theorem test_arity :
    (served (blockAt .t2) (.enc "BEGIN" none [.int 0, .int 0])).map State.encOut = some (some (.refused .arity)) := by
  decide
theorem test_unknown_instruction :
    (served (blockAt .t2) (.enc "CMD_DLSTART" none [])).map State.encOut =
      some (some (.refused .unknownInstruction)) := by decide
theorem test_variant_of_none :
    (served (blockAt .t2) (.enc "BEGIN" (some .g2) [.int 0])).map State.encOut =
      some (some (.refused .unknownInstruction)) := by decide
theorem test_non_integer :
    (served (blockAt .t2) (.enc "CMD_X" none [.nonInteger "1.5"])).map State.encOut =
      some (some (.refused .nonInteger)) := by decide
theorem test_unknown_host :
    (served (blockAt .t2) (.host "PD_ROMS" none)).map State.hostOut = some (some (.refused .unknownHostCommand)) := by
  decide
theorem test_host_no_param :
    (served (blockAt .t2) (.host "CLKSEL" none)).map State.hostOut = some (some (.ok ⟨0x61#8, 0x00#8⟩)) := by decide
theorem test_map_register :
    (served (blockAt .t4) (.map "REG_PCLK_FREQ")).map State.mapOut = some (some (.ok (.address 0x302614#24))) := by
  decide
theorem test_map_register_tier :
    (served (blockAt .t2) (.map "REG_FLASH_SIZE")).map State.mapOut =
      some (some (.err (.generationMismatch .registerOrWindow ⟨"REG_FLASH_SIZE", none⟩ 2 3 none))) := by decide
theorem test_map_second_name :
    (served (blockAt .t2) (.map "REG_CTOUCH_TOUCH0_XY")).map State.mapOut =
      some (some (.ok (.address 0x302124#24))) := by decide
theorem test_map_constant :
    (served (blockAt .t2) (.map "ONE_MINUS_SRC_ALPHA")).map State.mapOut = some (some (.ok (.constant 4))) := by decide
theorem test_map_constant_tier :
    (served (blockAt .t2) (.map "RED")).map State.mapOut =
      some (some (.err (.generationMismatch .constant ⟨"RED", none⟩ 2 3 none))) := by decide
theorem test_map_gk_off :
    (served (sourceOnlyAt .t2) (.map "RECTS")).map State.mapOut = some (some (.ok (.constant 9))) ∧
    (served (sourceOnlyAt .t2) (.map "RAM_ERR_REPORT")).map State.mapOut =
      some (some (.refused .notInSource)) := by decide
theorem test_map_unknown :
    (served (blockAt .t2) (.map "REG_NOPE")).map State.mapOut = some (some (.refused .unknownName)) := by decide

/-- The region of an address on a block of the spec's sizes. -/
def regionAt (a : Int) : Option (Option (Response MapValue)) :=
  (served (blockAt .t2) (.region (.int a))).map State.mapOut

/-- Both ends of every range of 20_memory.md R41, and of the address space. -/
theorem test_region_boundaries :
    ([(0, .window .ramG), (0x0FFFFF, .window .ramG), (0x100000, .unmapped), (0x1DFFFF, .unmapped),
      (0x1E0000, .window .romFont), (0x2FFFFB, .window .romFont), (0x2FFFFC, .window .romFontRoot),
      (0x2FFFFF, .window .romFontRoot), (0x300000, .window .ramDl), (0x301FFF, .window .ramDl),
      (0x302000, .window .ramReg), (0x302FFF, .window .ramReg), (0x303000, .unmapped), (0x307FFF, .unmapped),
      (0x308000, .window .ramCmd), (0x308FFF, .window .ramCmd), (0x309000, .window .ramReg2),
      (0x3097FF, .window .ramReg2), (0x309800, .window .ramErrReport), (0x30987F, .window .ramErrReport),
      (0x309880, .unmapped), (0xFFFFFF, .unmapped)] : List (Int × Region)).all
      (fun q => regionAt q.1 == some (some (.ok (.region q.2)))) = true ∧
    regionAt (-1) = some (some (.refused .addrRange)) ∧ regionAt 0x1000000 = some (some (.refused .addrRange)) := by
  decide

/-! Reset (95_test_vectors.md L2.70). -/

/-- TIER, CONFIGURED and the port after `rst`. -/
def resetOf (s : State) (v : Int) : Option (Tier × Bool × Option (Response Unit)) :=
  (served s (.rst (.int v))).map fun t => (t.tier, t.configured, t.cfgOut)

theorem test_power_on_unconfigured :
    (served State.reset (.enc "COLOR_RGB" none [.int 1, .int 2, .int 3])).map (fun t => (t.encOut, t.configured)) =
      some (some (.refused .unconfigured), false) := by decide
/-- The vector `power-on; rst(1)` with the ruling U3 of 93_implementation_defined.md: refused, unconfigured. -/
theorem test_reset_illegal :
    (resetOf State.reset 1).map (fun q => q.2) = some (false, some (.refused .illegalTier)) := by decide
theorem test_reset_legal :
    (resetOf State.reset 2).map (fun q => (q.1, q.2.1)) = some (.t2, true) ∧
    (resetOf State.reset 3).map (fun q => (q.1, q.2.1)) = some (.t3, true) ∧
    (resetOf State.reset 4).map (fun q => (q.1, q.2.1)) = some (.t4, true) ∧
    (resetOf State.reset 7).map (fun q => (q.1, q.2.1)) = some (.t4, true) := by decide
theorem test_reset_again : (resetOf (blockAt .t4) 5).map (fun q => (q.1, q.2.1)) = some (.t4, true) := by decide
theorem test_reset_change : resetOf (blockAt .t3) 4 = some (.t3, true, some (.refused .tierChange)) := by decide
theorem test_reset_illegal_configured :
    resetOf (blockAt .t2) 0 = some (.t2, true, some (.refused .tierChange)) := by decide

/-! The decoder's refusals and the table's numbering (95_test_vectors.md L2.30). -/

theorem test_decode_reserved_top : decodeWord vectorParams .t2 0xFFFFFF00#32 = .notEncoderOutput .reservedTop := by decide
theorem test_decode_reserved_opcode :
    decodeWord vectorParams .t2 0x2E000000#32 = .notEncoderOutput .reservedOpcode ∧
    decodeWord vectorParams .t4 0x3F000000#32 = .notEncoderOutput .reservedOpcode := by decide
theorem test_decode_unused_bit :
    decodeWord vectorParams .t2 0x1F000010#32 = .notEncoderOutput .nonzeroUnusedBits ∧
    decodeWord vectorParams .t2 0x15020100#32 = .notEncoderOutput .nonzeroUnusedBits := by decide
theorem test_signed_view :
    signedArgs vectorParams .vertex2f 0x7FFFFFFF#32 = [-1, -1] ∧
    signedArgs vectorParams .bitmapTransformF 0x1A800000#32 = [-8388608] := by decide
theorem test_table_word : decodeTableWord 32 0x4005000A = some (.vertex2f 10 10) := by decide
theorem test_table_frame :
    decodeTableWord 8 0x50 = some (.hostPwrdown 0) ∧ decodeTableWord 16 0x4661 = some (.hostClksel 0x46) := by decide
theorem test_fetch_word :
    (after (step (State.reset.withFetchWord 32 0x1F000009))).map State.encOut =
      some (some (.ok 0x1F000009#32)) := by decide
theorem test_fetch_frame :
    (after (step (State.reset.withFetchWord 8 0x48))).map State.hostOut =
      some (some (.ok ⟨0x48#8, 0x00#8⟩)) := by decide

/-! The textual syntax and the byte image (30_encoding.md R75, 95_test_vectors.md P1, P4). -/

theorem test_line_symbol :
    assembleLine vectorParams .t2 true "BEGIN(RECTS)" = .done (.enc "BEGIN" none [.int 9]) := by decide
theorem test_line_window :
    assembleLine vectorParams .t2 true "BITMAP_SOURCE(RAM_G + 0x1000)" =
      .done (.enc "BITMAP_SOURCE" none [.int 0x1000]) := by decide
theorem test_line_variant :
    assembleLine vectorParams .t3 true "BITMAP_TRANSFORM_A(1, -256)" =
      .done (.enc "BITMAP_TRANSFORM_A" (some .g3) [.int 1, .int (-256)]) := by decide
theorem test_line_host :
    assembleLine vectorParams .t2 true "HOST(CLKSEL, 0x46)" = .done (.host "CLKSEL" (some (.int 0x46))) := by decide
theorem test_line_lookup : assembleLine vectorParams .t2 true "RAM_DL" = .done (.map "RAM_DL") := by decide
theorem test_line_tier_gate :
    assembleLine vectorParams .t2 true "BITMAP_SWIZZLE(RED)" =
      .failed (.unresolved "RED" (.err (.generationMismatch .constant ⟨"RED", none⟩ 2 3 none))) := by decide
theorem test_line_malformed : assembleLine vectorParams .t2 true "BEGIN(" = .failed .malformed := by decide
theorem test_image :
    displayListImage (emittedWords [.ok 0x1F000009#32, .refused .arity, .ok 0x4005000A#32]) =
      [(0x300000, 0x09#8), (0x300001, 0x00#8), (0x300002, 0x00#8), (0x300003, 0x1F#8),
       (0x300004, 0x0A#8), (0x300005, 0x00#8), (0x300006, 0x05#8), (0x300007, 0x40#8)] := by decide

/-! Witnesses: for every obligation with hypotheses, a concrete state and operands that meet all of them. -/

/-- The hypotheses of VisibleInstructionsDriveTheirWord, for the instruction of a row with every operand 1. -/
def wordHypotheses (s : State) (op : DlOp) : Bool :=
  let i := instrOfOp op ((opsel s.params op).fields.map fun _ => 1)
  decide (i.item = .dl op) && s.configured && (decide ((opsel s.params op).src = .doc) || s.params.gkTableEnabled) &&
    tierVisible (opsel s.params op).tiers s.tier &&
    (i.args.zip (opsel s.params op).fields).all fun q => inRange q.1 q.2

theorem test_witness_words_tier2 : (DlOp.all.filter (wordHypotheses (strictAt .t2))).length = 48 := by decide
theorem test_witness_words_tier3 :
    (DlOp.all.filter (wordHypotheses (strictAt .t3))).length = 50 ∧
    (DlOp.all.all fun op => wordHypotheses (strictAt .t2) op || wordHypotheses (strictAt .t3) op) = true := by decide

/-- The hypotheses of VisibleHostCommandsDriveTheirFrame. -/
def frameHypotheses (s : State) (param : Int) (c : HostCmd) : Bool :=
  let i := instrOfHost c param
  decide (i.item = .host c) && decide (i.args = [param]) && s.configured && s.params.gkTableEnabled &&
    tierVisible (hostRow c).tiers s.tier && (!s.params.strictRange || decide (0 ≤ param ∧ param < 256))

theorem test_witness_frames_tier2 : HostCmd.all.all (frameHypotheses (blockAt .t2) 300) = true := by decide
theorem test_witness_frames_strict :
    HostCmd.all.all (frameHypotheses (strictAt .t3) 0) = true ∧
    HostCmd.all.all (frameHypotheses (strictAt .t3) 255) = true := by decide
theorem test_witness_unconfigured : State.reset.configured = false ∧ (1 : Int) < 2 ∧ (2 : Int) ≤ 2 := by decide
theorem test_witness_reset_same : (blockAt .t4).configured = true ∧ normTier 5 = some (blockAt .t4).tier := by decide
theorem test_norm_boundaries :
    normTier 1 = none ∧ normTier 2 = some .t2 ∧ normTier 3 = some .t3 ∧ normTier 4 = some .t4 ∧
    normTier 5 = some .t4 := by decide

/-- A block with one request of each kind waiting. -/
def busy : State :=
  { blockAt .t2 with requests := [.enc "END" none [], .host "ACTIVE" none, .map "RAM_G", .rst (.int 3)] }

theorem test_witness_tier_kept : (after (step busy)).map State.encOut = some (some (.ok 0x21000000#32)) := by decide
theorem test_witness_tier_run : ∃ t, Host.Core.run Sys2Proof.core 2 busy = .next t := ⟨_, rfl⟩
theorem test_witness_non_rst :
    busy.requests.head? = some (.enc "END" none []) ∧ ∀ o, Request.enc "END" none [] ≠ .rst o := ⟨rfl, nofun⟩
theorem test_witness_tier_change : (blockAt .t3).configured = true ∧ normTier 4 ≠ some (blockAt .t3).tier := by decide
theorem test_witness_ports_sound_step : PortsSound busy ∧ (after (step busy)).isSome = true :=
  ⟨⟨nofun, nofun, nofun, nofun, nofun, nofun, nofun⟩, by decide⟩
theorem test_witness_idle : State.reset.requests = [] := rfl
theorem test_witness_serve : busy.requests = .enc "END" none [] :: busy.requests.tail := rfl
theorem test_witness_step_runs :
    busy.requests = requestOf busy.params .endPrim :: busy.requests.tail := by decide
theorem test_witness_fetch : decodeTableWord 32 0x0D000140 = some (.pointSize 320) := by decide
theorem test_witness_residues :
    tierVisible (opsel vectorParams .colorRgb).tiers .t2 = true ∧
    [300, -1, 0].length = (opsel vectorParams .colorRgb).fields.length := by decide
theorem test_witness_fit : argsFit [44, 255, 0] (opsel vectorParams .colorRgb).fields = true := by decide
theorem test_witness_signed_view :
    [-16384, 16383].length = (opsel vectorParams .vertex2f).fields.length ∧
    ∀ q ∈ [-16384, 16383].zip (opsel vectorParams .vertex2f).fields,
      (if q.2.signed then -(2 ^ (q.2.width - 1)) ≤ q.1 ∧ q.1 < 2 ^ (q.2.width - 1)
       else 0 ≤ q.1 ∧ q.1 < 2 ^ q.2.width) := by decide
theorem test_witness_bytes :
    (Instr.bitmapTransformAG3 1 0x1FFFF).wellFormed vectorParams = true ∧
    tierVisible (instrTiers vectorParams (.bitmapTransformAG3 1 0x1FFFF)) .t4 = true ∧
    ∀ v, Instr.bitmapTransformAG3 1 0x1FFFF ≠ .hostCorerst v := ⟨by decide, by decide, nofun⟩
theorem test_witness_bytes_corerst :
    (Instr.hostCorerst 255).wellFormed vectorParams = true ∧
    tierVisible (instrTiers vectorParams (.hostCorerst 255)) .t2 = true := by decide
theorem test_witness_decoded_word : decodeWord vectorParams .t2 0x26000005#32 = .instr (.clear 1 0 1) := by decide
theorem test_witness_decoded_frame : decodeFrame .t2 ⟨0x70#8, 0x2A#8⟩ = .instr (.hostPindrive 0x2A) := by decide
theorem test_witness_emitted :
    Instr.endPrim.item = .dl .endPrim ∧
    (after (exec .endPrim (blockAt .t2))).map State.encOut = some (some (.ok 0x21000000#32)) := by decide
theorem test_witness_args_length :
    [31, -1, 600].length = (opsel vectorParams .bitmapLayout).fields.length := by decide
theorem test_witness_perm :
    ([(1, ⟨"y", 11, 0, false⟩), (2, ⟨"x", 11, 11, false⟩)] : List (Int × FieldDesc)).Perm
      ([2, 1].zip (opsel vectorParams .scissorXy).fields) := by decide
theorem test_witness_residue_equal :
    [300].length = (opsel vectorParams .colorA).fields.length ∧
    [44].length = (opsel vectorParams .colorA).fields.length ∧ (300 : Int) % 2 ^ 8 = 44 % 2 ^ 8 := by decide
theorem test_witness_set : (opsel vectorParams .colorRgb).fields[1]? = some ⟨"green", 8, 8, false⟩ := by decide
theorem test_witness_one_row :
    tierVisible (opsel vectorParams .bitmapTransformAG3).tiers .t3 = true ∧
    0x15020100#32 &&& headerMask (opsel vectorParams .bitmapTransformAG3) =
      matchWord (opsel vectorParams .bitmapTransformAG3) := by decide
theorem test_witness_lenient :
    (blockAt .t2).params.strictRange = false ∧ (Instr.bitmapSwizzle 0 0 0 0).item = .dl .bitmapSwizzle ∧
    wordAfter (.bitmapSwizzle 0 0 0 0) (blockAt .t2) =
      some (.err (.generationMismatch .instruction ⟨"BITMAP_SWIZZLE", none⟩ 2 3 none)) := by decide
theorem test_witness_lenient_host :
    (blockAt .t4).params.strictRange = false ∧ (Instr.hostClkint 0).item = .host .clkint ∧
    frameAfter (.hostClkint 0) (blockAt .t4) =
      some (.err (.generationMismatch .hostCommand ⟨"CLKINT", none⟩ 4 2 (some 3))) := by decide
theorem test_witness_range_word :
    (strictAt .t2).params.strictRange = true ∧ (strictAt .t2).params.gkTableEnabled = true ∧
    tierVisible (opsel (strictAt .t2).params .colorRgb).tiers .t2 = true ∧
    [255, 256, -1].length = (opsel (strictAt .t2).params .colorRgb).fields.length ∧
    (opsel (strictAt .t2).params .colorRgb).fields[1]? = some ⟨"green", 8, 8, false⟩ ∧
    inRange 256 ⟨"green", 8, 8, false⟩ = false ∧
    (opsel (strictAt .t2).params .colorRgb).fields[0]? = some ⟨"red", 8, 16, false⟩ ∧
    inRange 255 ⟨"red", 8, 16, false⟩ = true := by decide
theorem test_witness_range_ok :
    ([-16384, 32767].zip (opsel (strictAt .t2).params .vertex2f).fields).all (fun q => inRange q.1 q.2) = true := by
  decide
theorem test_witness_range_frame :
    tierVisible (hostRow .clksel).tiers (strictAt .t2).tier = true ∧ ((-1 : Int) < 0 ∨ (255 : Int) < -1) ∧
    ((256 : Int) < 0 ∨ (255 : Int) < 256) ∧ (0 : Int) ≤ 0 ∧ (255 : Int) ≤ 255 := by decide
theorem test_witness_refusal :
    (served (blockAt .t2) (.enc "END" none [.int 0])).map (fun t => (responseTo t (.enc "END" none [.int 0])).refusal) =
      some (some .arity) := by decide
theorem test_witness_rejected :
    (served (blockAt .t4) (.host "CLKINT" none)).map (fun t => (responseTo t (.host "CLKINT" none)).rejected) =
      some true := by decide
theorem test_witness_rejected_illegal :
    (served State.reset (.rst (.int 1))).map (fun t => (responseTo t (.rst (.int 1))).rejected) = some true := by decide
theorem test_witness_illegal_tier : State.reset.configured = false ∧ (1 : Int) < 2 ∧ (0 : Int) < 2 ∧ (-5 : Int) < 2 := by
  decide
theorem test_witness_same_response :
    (blockAt .t2).tier = busy.tier ∧ (blockAt .t2).configured = busy.configured ∧
    (blockAt .t2).params = busy.params := by decide
theorem test_witness_same_after_run : busy.configured = true ∧ ∃ t, Host.Core.run Sys2Proof.core 1 busy = .next t :=
  ⟨rfl, _, rfl⟩
theorem test_witness_interleaving :
    busy.configured = true ∧
    busy.requests = [Request.enc "END" none [], .host "ACTIVE" none] ++ .map "RAM_G" :: [.rst (.int 3)] := by decide
theorem test_witness_word_item : Instr.nop.item = .dl .nop := rfl
theorem test_witness_host_item : (Instr.hostSleep 0).item = .host .sleep := rfl
theorem test_witness_two_ports :
    Instr.nop.item = .dl .nop ∧ (Instr.hostSleep 0).item = .host .sleep ∧
    (after (exec .nop (blockAt .t2))).isSome = true ∧ (after (exec (.hostSleep 0) (blockAt .t2))).isSome = true := by
  decide
theorem test_witness_tier_order :
    Tier.toNat .t2 ≤ Tier.toNat .t4 ∧ tierVisible (opsel vectorParams .nop).tiers .t2 = true ∧
    tierVisible (hostRow .clkext).tiers .t2 = true := by decide
theorem test_witness_monotone :
    ∃ e, mapEntryNamed "REG_FLASH_SIZE" = some e ∧ tierVisible e.tiers .t3 = true := ⟨_, rfl, by decide⟩
theorem test_witness_mux_g3 :
    (blockAt .t2).configured = true ∧ (blockAt .t2).params.gkTableEnabled = true ∧ "A" ∈ ["A", "B", "D", "E"] ∧
    (blockAt .t2).tier = .t2 := by decide
theorem test_witness_mux_g2 : (blockAt .t4).configured = true ∧ (blockAt .t4).tier ≠ .t2 := by decide
theorem test_witness_mux_c : "F" ∈ ["C", "F"] := by decide
theorem test_witness_six :
    (Instr.beginPrim 9).item = .dl .beginPrim ∧ (sourceOnlyAt .t3).configured = true ∧
    (sourceOnlyAt .t3).params.gkTableEnabled = false ∧
    DlOp.beginPrim ∈ [DlOp.beginPrim, .endPrim, .colorRgb, .pointSize, .bitmapLayout, .vertex2f] := by decide
theorem test_witness_not_six :
    Instr.nop.item = .dl .nop ∧
    DlOp.nop ∉ [DlOp.beginPrim, .endPrim, .colorRgb, .pointSize, .bitmapLayout, .vertex2f] := by decide
theorem test_witness_gk_off :
    (sourceOnlyAt .t2).params.gkTableEnabled = false ∧
    mapAnswer (sourceOnlyAt .t2).params .t2 true "RAM_CMD" = .ok (.address 0x308000#24) := by decide
theorem test_witness_region :
    (blockAt .t2).configured = true ∧ (blockAt .t2).params.ramGSize = 0x100000 ∧
    (blockAt .t2).params.ramDlSize = 0x2000 ∧ (blockAt .t2).params.ramRegSize = 0x1000 ∧
    (blockAt .t2).params.ramCmdSize = 0x1000 ∧ (blockAt .t2).params.ramReg2Size = 0x800 := by decide
theorem test_witness_image : [0x1F000009#32, 0x21000000#32][1]? = some 0x21000000#32 ∧ 3 < 4 := by decide
theorem test_witness_mask_width : 17 ≤ 32 ∧ field (-256) 17 = 0x1FF00 := by decide

end Sys2Proof.Tests
end

section
/-! The residue of an operand as a mask of its 32-bit word (00_scope.md R9). -/

namespace Sys2Proof

/-- A narrow residue is a residue of any wider one, because 2^n divides 2^m (R9). -/
theorem field_mod_two_pow {n m : Nat} (h : n ≤ m) (v : Int) : field v m % 2 ^ n = field v n := by
  have hdvd : ((2 ^ n : Nat) : Int) ∣ ((2 ^ m : Nat) : Int) := by
    exact_mod_cast Nat.pow_dvd_pow 2 h
  have hcast : ((field v m % 2 ^ n : Nat) : Int) = field v n := by
    rw [Int.natCast_emod, field_cast, field_cast, Int.emod_emod_of_dvd v hdvd]
  exact_mod_cast hcast

/-- The w-bit two's-complement word of an integer, read unsigned, is its w-bit residue (R9). -/
theorem toNat_ofInt_eq_field (w : Nat) (v : Int) : (BitVec.ofInt w v).toNat = field v w := by
  rw [BitVec.toNat_ofInt]
  rfl

/-- The source's bitmask law (R9). Both sides have the value `field v n`: the mask keeps the residue mod 2^n of the
32-bit word. -/
theorem ofNat_field_eq_ofInt_and_mask {n : Nat} (h : n ≤ 32) (v : Int) :
    BitVec.ofNat 32 (field v n) = BitVec.ofInt 32 v &&& BitVec.ofNat 32 (2 ^ n - 1) := by
  have hpow : 2 ^ n ≤ 2 ^ 32 := Nat.pow_le_pow_right (by decide) h
  have hmask : 2 ^ n - 1 < 2 ^ 32 := (Nat.sub_lt (Nat.two_pow_pos n) Nat.one_pos).trans_le hpow
  apply BitVec.eq_of_toNat_eq
  calc
    (BitVec.ofNat 32 (field v n)).toNat = field v n := by
      rw [BitVec.toNat_ofNat, Nat.mod_eq_of_lt ((field_lt v n).trans_le hpow)]
    _ = field v 32 % 2 ^ n := (field_mod_two_pow h v).symm
    _ = field v 32 &&& (2 ^ n - 1) := (Nat.and_two_pow_sub_one_eq_mod _ n).symm
    _ = (BitVec.ofInt 32 v &&& BitVec.ofNat 32 (2 ^ n - 1)).toNat := by
      rw [BitVec.toNat_and, toNat_ofInt_eq_field, BitVec.toNat_ofNat, Nat.mod_eq_of_lt hmask]

/-- Settles O57: the value and the bound of the residue by `field_cast` and `field_lt`, the bitmask by the law above. -/
theorem residueIsTheMaskedTwosComplement : Obligations.ResidueIsTheMaskedTwosComplement := by
  intro v n
  have hvalue : (field v n : Int) = v % 2 ^ n := by exact_mod_cast field_cast v n
  exact ⟨hvalue, field_lt v n, fun h => ofNat_field_eq_ofInt_and_mask h v⟩

end Sys2Proof
end

section
/-! What a step does, by the queue, and the one induction over the steps of a run. -/

namespace Sys2Proof.Machine

/-- With nothing waiting a step idles (log entry 16). -/
theorem step_of_requests_nil {s : State} (h : s.requests = []) : step s = .next s := by
  rcases step_cases s with ⟨_, hstep⟩ | ⟨r, rest, hq, _⟩
  · exact hstep
  · exact absurd (h.symm.trans hq) (List.cons_ne_nil r rest).symm

/-- A step serves the oldest request (log entry 1). -/
theorem step_of_requests_cons {s : State} {r : Request} {rest : List Request} (h : s.requests = r :: rest) :
    step s = .next (State.serve { s with requests := rest } r) := by
  rcases step_cases s with ⟨hq, _⟩ | ⟨r', rest', hq, hstep⟩
  · exact absurd (h.symm.trans hq) (List.cons_ne_nil r rest)
  · obtain ⟨rfl, rfl⟩ := List.cons.inj (h.symm.trans hq)
    exact hstep

/-- A step on a state with its queue given is the service of the first request (log entry 1). -/
theorem step_cons (s : State) (r : Request) (rest : List Request) :
    step { s with requests := r :: rest } = .next (State.serve { s with requests := rest } r) :=
  step_of_requests_cons rfl

/-- The state a step answers, when the oldest request is known. -/
theorem eq_serve_of_step {s t : State} {r : Request} {rest : List Request} (h : s.requests = r :: rest)
    (hstep : step s = .next t) : t = State.serve { s with requests := rest } r :=
  (Host.Outcome.next.inj ((step_of_requests_cons h).symm.trans hstep)).symm

/-- A run of k + 1 steps is a step and a run of k. -/
theorem exists_step_of_run_succ {k : Nat} {s t : State} (h : Host.Core.run Sys2Proof.core (k + 1) s = .next t) :
    ∃ u, step s = .next u ∧ Host.Core.run Sys2Proof.core k u = .next t := by
  obtain ⟨u, hstep⟩ : ∃ u, step s = .next u := by
    rcases step_cases s with ⟨_, hstep⟩ | ⟨_, _, _, hstep⟩ <;> exact ⟨_, hstep⟩
  have hcore : Sys2Proof.core.step s = .next u := hstep
  simp only [Host.Core.run, hcore] at h
  exact ⟨u, hstep, h⟩

/-- A reflexive and transitive relation that holds over every step holds over every run. -/
theorem run_induction {R : State → State → Prop} (hrefl : ∀ s, R s s) (htrans : ∀ s t u, R s t → R t u → R s u)
    (hstep : ∀ s t, step s = .next t → R s t) (k : Nat) (s t : State)
    (h : Host.Core.run Sys2Proof.core k s = .next t) : R s t := by
  induction k generalizing s with
  | zero =>
    obtain rfl : s = t := Host.Outcome.next.inj h
    exact hrefl s
  | succ k ih =>
    obtain ⟨u, hsu, hut⟩ := exists_step_of_run_succ h
    exact htrans s u t (hstep s u hsu) (ih u hut)

/-- Settles O26: the two cases of the queue. -/
theorem stepServesTheOldestRequest : Obligations.StepServesTheOldestRequest :=
  ⟨fun _ h => step_of_requests_nil h, fun _ _ _ h => step_of_requests_cons h⟩

end Sys2Proof.Machine
end

section
/-! The request that names an instruction is read back as it: a row or command is found under its own name. -/

namespace Sys2Proof.Machine

/-- No two rows share a mnemonic and variant, so a row is found under its own (30_encoding.md R65). -/
theorem dlOpNamed_opsel (p : Params) (op : DlOp) :
    dlOpNamed p (opsel p op).mnemonic (opsel p op).variant = some op := by
  cases op <;> rfl

/-- No two host commands share a name, so a command is found under its own (44_host_commands.md R231). -/
theorem hostCmdNamed_hostRow (c : HostCmd) : hostCmdNamed (hostRow c).name = some c := by
  cases c <;> rfl

theorem intArgs_map_int (vs : List Int) : intArgs (vs.map .int) = some vs := by
  induction vs with
  | nil => rfl
  | cons v rest ih => simp only [List.map_cons, intArgs, Operand.int?, ih]

theorem instr?_requestOf (p : Params) (i : Instr) : (requestOf p i).instr? p = some i := by
  cases hi : i.item with
  | dl op =>
    obtain ⟨hlen, hback⟩ := Instr.args_of_dl p hi
    simp only [requestOf, hi, Request.instr?, intArgs_map_int, dlOpNamed_opsel, if_pos hlen, hback]
  | host c =>
    obtain ⟨_, hback⟩ := Instr.args_of_host hi
    simp only [requestOf, hi, Request.instr?, hostParam, Option.getD_some, Operand.int?, hostCmdNamed_hostRow, hback]

/-- Settles O27: serving the request that names an instruction is the instruction's meaning (`exec_serve`). -/
theorem stepRunsTheNamedInstruction : Obligations.StepRunsTheNamedInstruction := by
  intro s i rest h
  have hserve := exec_serve (s := { s with requests := rest }) (instr?_requestOf s.params i)
  exact (step_of_requests_cons h).trans hserve.symm

end Sys2Proof.Machine
end

section
/-! The reset event on an integer, one equation per case of 70_reset_and_hazards.md R330. -/

namespace Sys2Proof.Machine

theorem normTier_of_four_le {v : Int} (h : 4 ≤ v) : normTier v = some .t4 := by
  unfold normTier
  rw [if_neg (by omega), if_neg (by omega), if_pos h]

/-- A configured block refuses every tier but its own, an illegal one too. -/
theorem State.rst_of_other_tier {s : State} {v : Int} (hc : s.configured = true) (hv : normTier v ≠ some s.tier) :
    s.rst (.int v) = s.driveCfg (.refused .tierChange) := by
  cases hn : normTier v with
  | none => simp [State.rst, Operand.int?, hn, hc]
  | some t =>
    have ht : t ≠ s.tier := fun h => hv (hn.trans (congrArg some h))
    simp [State.rst, Operand.int?, hn, hc, ht]

/-- A block that is not configured refuses an illegal tier (93_implementation_defined.md U3). -/
theorem State.rst_of_illegal {s : State} {v : Int} (hc : s.configured = false) (hv : v < 2) :
    s.rst (.int v) = s.unconfigure.driveCfg (.refused .illegalTier) := by
  simp [State.rst, Operand.int?, (normTier_eq_none_iff v).mpr hv, hc]

/-- A block that is not configured takes a legal tier. -/
theorem State.rst_of_legal {s : State} {v : Int} {t : Tier} (hc : s.configured = false) (hv : normTier v = some t) :
    s.rst (.int v) = (s.configure t).driveCfg (.ok ()) := by
  simp [State.rst, Operand.int?, hv, hc]

end Sys2Proof.Machine
end

section
/-! O22: TIER and CONFIGURED over a request, a step and a run (10_state.md R21). -/

namespace Sys2Proof.Machine

open Sys2Proof.Safety

theorem tierKept_refl (s : State) : TierKept s s :=
  ⟨rfl, fun h => ⟨h, rfl⟩⟩

theorem tierKept_trans (s t u : State) (hst : TierKept s t) (htu : TierKept t u) : TierKept s u := by
  obtain ⟨hp, hkeep⟩ := hst
  obtain ⟨hp', hkeep'⟩ := htu
  refine ⟨hp'.trans hp, fun hc => ?_⟩
  obtain ⟨hct, htier⟩ := hkeep hc
  obtain ⟨hcu, htier'⟩ := hkeep' hct
  exact ⟨hcu, htier'.trans htier⟩

theorem serve_tierKept (s : State) (r : Request) : TierKept s (s.serve r) :=
  ⟨(s.serve_frame r).1, fun hc => (s.serve_configured r hc).symm⟩

theorem step_tierKept (s t : State) (h : step s = .next t) : TierKept s t := by
  cases hq : s.requests with
  | nil =>
    obtain rfl : s = t := Host.Outcome.next.inj ((step_of_requests_nil hq).symm.trans h)
    exact tierKept_refl s
  | cons r rest =>
    obtain rfl := eq_serve_of_step hq h
    exact serve_tierKept { s with requests := rest } r

theorem run_tierKept (k : Nat) (s t : State) (h : Host.Core.run Sys2Proof.core k s = .next t) : TierKept s t :=
  run_induction tierKept_refl tierKept_trans step_tierKept k s t h

/-- Settles O22: `TierKept` is kept by every step, so by every run; the refusal is the reset event's own. -/
theorem tierIsFixedAfterConfiguration : Obligations.TierIsFixedAfterConfiguration := by
  refine ⟨⟨rfl, rfl, fun _ => normTier_of_four_le, fun v => (normTier_eq_none_iff v).mpr⟩,
    step_tierKept, run_tierKept, ?_, ?_⟩
  · intro s t r rest hq hr hstep
    obtain rfl := eq_serve_of_step hq hstep
    exact State.serve_keeps { s with requests := rest } r hr
  · intro s rest v hc hv
    have hrst := State.rst_of_other_tier (s := { s with requests := rest }) hc hv
    exact (step_cons s (.rst (.int v)) rest).trans (congrArg Host.Outcome.next hrst)

end Sys2Proof.Machine
end

section
/-! O42: the response of each port as a function of the configuration and the request (10_state.md R30). -/

namespace Sys2Proof.Machine

open Sys2Proof.Safety

/-- The response to the reset event, as a function of TIER, CONFIGURED and its operand; `State.rst_cfgOut` ties it to
the model. -/
def rstAnswer (t : Tier) (configured : Bool) (cfgTier : Operand) : Response Unit :=
  match cfgTier.int? with
  | none => .refused .nonInteger
  | some v =>
    match normTier v with
    | some u => if configured = true ∧ u ≠ t then .refused .tierChange else .ok ()
    | none => if configured = true then .refused .tierChange else .refused .illegalTier

theorem State.rst_cfgOut (s : State) (o : Operand) :
    (s.rst o).cfgOut = some (rstAnswer s.tier s.configured o) := by
  unfold State.rst rstAnswer
  cases o.int? with
  | none => rfl
  | some v =>
    dsimp only
    cases normTier v with
    | none => dsimp only; split <;> rfl
    | some t => dsimp only; split <;> rfl

/-- The response to a request, as a function of the parameters, TIER, CONFIGURED and the request; `responseTo_serve`
ties it to the model. -/
def portAnswer (p : Params) (t : Tier) (configured : Bool) : Request → PortResponse
  | .enc mnemonic variant args => .enc (some (encAnswer p t configured mnemonic variant args))
  | .host cmd param => .host (some (hostAnswer p t configured cmd param))
  | .map name => .map (some (mapAnswer p t configured name))
  | .region addr => .map (some (regionAnswer p configured addr))
  | .rst cfgTier => .cfg (some (rstAnswer t configured cfgTier))
  | .writeTier newTier => .cfg (some (writeTierAnswer configured newTier))

/-- A served request's port holds the answer that the configuration and the request determine: neither the ports nor
the queue are read. -/
theorem responseTo_serve (s : State) (r : Request) :
    responseTo (s.serve r) r = portAnswer s.params s.tier s.configured r := by
  cases r with
  | rst o => exact congrArg PortResponse.cfg (s.rst_cfgOut o)
  | _ => rfl

/-- Settles O42: both responses are `portAnswer` of the same configuration, which a run from a configured state keeps
(`run_tierKept`). -/
theorem responsesDependOnTierAndRequestAlone : Obligations.ResponsesDependOnTierAndRequestAlone := by
  constructor
  · intro s₁ s₂ t₁ t₂ r rest₁ rest₂ htier hconf hparams hq₁ hq₂ hstep₁ hstep₂
    obtain rfl := eq_serve_of_step hq₁ hstep₁
    obtain rfl := eq_serve_of_step hq₂ hstep₂
    rw [responseTo_serve, responseTo_serve]
    dsimp only
    rw [htier, hconf, hparams]
  · intro k s t r hc hrun
    obtain ⟨hparams, hkeep⟩ := run_tierKept k s t hrun
    obtain ⟨hconf, htier⟩ := hkeep hc
    rw [responseTo_serve, responseTo_serve, hparams, htier, hconf, hc]

end Sys2Proof.Machine
end

section
/-! O58: a block that an illegal tier leaves unconfigured (93_implementation_defined.md U3). -/

namespace Sys2Proof.Machine

open Sys2Proof.Safety

/-- A block that is not configured refuses every request but the reset event (70_reset_and_hazards.md R331). -/
theorem refusal_of_unconfigured {s : State} (hc : s.configured = false) {r : Request} (hr : ∀ o, r ≠ .rst o) :
    (responseTo (s.serve r) r).refusal = some .unconfigured := by
  rw [responseTo_serve, hc]
  cases r with
  | rst o => exact absurd rfl (hr o)
  | _ => rfl

/-- A legal tier configures a block that is not configured (70_reset_and_hazards.md R330). -/
theorem serve_rst_configured {s : State} (hc : s.configured = false) {u : Int} (hu : 2 ≤ u) :
    (s.serve (.rst (.int u))).configured = true := by
  obtain ⟨t, ht⟩ : ∃ t, normTier u = some t := by
    rw [← Option.ne_none_iff_exists', Ne, normTier_eq_none_iff]
    exact not_lt.mpr hu
  rw [State.serve, State.rst_of_legal hc ht, State.driveCfg_configured, State.configure_configured]

/-- Settles O58: the next state is that of `State.rst_of_illegal`, not configured, so `refusal_of_unconfigured` and
`serve_rst_configured` say what it answers. -/
theorem illegalTierIsRefused : Obligations.IllegalTierIsRefused := by
  intro s rest v hc hv
  have hrst := State.rst_of_illegal (s := { s with requests := rest }) hc hv
  have hstep := (step_cons s (.rst (.int v)) rest).trans (congrArg Host.Outcome.next hrst)
  exact ⟨_, _, hstep, rfl, rfl, rfl, rfl, rfl, rfl, rfl, fun _ hr => refusal_of_unconfigured rfl hr,
    fun _ hu => serve_rst_configured rfl hu⟩

end Sys2Proof.Machine
end

section
/-! O46: which tier ranges are bounded above, and what that leaves visible at a higher tier (10_state.md R32). -/

namespace Sys2Proof.Machine

/-- A range with no upper bound is visible at every higher tier too. -/
theorem tierVisible_mono {r : TierRange} {t u : Tier} (hmax : r.tmax = none) (htu : t.toNat ≤ u.toNat)
    (ht : tierVisible r t = true) : tierVisible r u = true := by
  simp only [tierVisible, hmax, Bool.and_true, decide_eq_true_eq] at ht ⊢
  exact ht.trans htu

/-- The rows of the transforms that tier 3 replaces (42_dl_bitmap.md R169). -/
def tier2Transforms : List DlOp :=
  [.bitmapTransformAG2, .bitmapTransformBG2, .bitmapTransformDG2, .bitmapTransformEG2]

theorem opsel_tmax (p : Params) (op : DlOp) :
    (opsel p op).tiers.tmax = if op ∈ tier2Transforms then some 2 else none := by
  cases op <;> rfl

theorem opsel_tiers_of_tier2Transform (p : Params) {op : DlOp} (h : op ∈ tier2Transforms) :
    (opsel p op).tiers = ⟨2, some 2⟩ := by
  simp only [tier2Transforms, List.mem_cons, List.not_mem_nil, or_false] at h
  rcases h with rfl | rfl | rfl | rfl <;> rfl

theorem tierVisible_two_two (t : Tier) : tierVisible ⟨2, some 2⟩ t = true ↔ t = .t2 := by
  cases t <;> decide

theorem hostRow_tmax (c : HostCmd) : (hostRow c).tiers.tmax = if c = .clkint then some 3 else none := by
  cases c <;> rfl

theorem tierVisible_clkint (t : Tier) : tierVisible (hostRow .clkint).tiers t = true ↔ t ≠ .t4 := by
  cases t <;> decide

theorem windowTiers_tmax (w : Window) : (windowTiers w).tmax = none := by
  cases w <;> rfl

/-- No name of the map is bounded above: not a register, a window or a constant (45_register_address_map.md R270). -/
theorem mapEntryNamed_tmax {name : String} {e : MapEntry} (h : mapEntryNamed name = some e) : e.tiers.tmax = none := by
  unfold mapEntryNamed at h
  split at h
  · cases h; rfl
  · split at h
    · next w _ => cases h; exact windowTiers_tmax w
    · obtain ⟨c, _, rfl⟩ := Option.map_eq_some_iff.mp h
      rfl

/-- Settles O46: what has no upper bound stays visible (`tierVisible_mono`), and the bounded rows and command are the
exceptions stated. -/
theorem capabilitiesAreKeptAtHigherTiers : Obligations.CapabilitiesAreKeptAtHigherTiers := by
  intro p t u htu
  refine ⟨?_, ?_, ?_, tierVisible_clkint t, ?_⟩
  · intro op ht ha hb hd he
    have hop : op ∉ tier2Transforms := by simp [tier2Transforms, ha, hb, hd, he]
    exact tierVisible_mono ((opsel_tmax p op).trans (if_neg hop)) htu ht
  · intro op hop
    have hmem : op ∈ tier2Transforms := by simpa [tier2Transforms] using hop
    rw [opsel_tiers_of_tier2Transform p hmem]
    exact tierVisible_two_two t
  · intro c ht hc
    exact tierVisible_mono ((hostRow_tmax c).trans (if_neg hc)) htu ht
  · intro name e he ht
    exact tierVisible_mono (mapEntryNamed_tmax he) htu ht

end Sys2Proof.Machine
end

section
/-! O43: a run up to a request of the queue, and the response it finds there (60_exceptions.md R312, log entry 23). -/

namespace Sys2Proof.Machine

open Sys2Proof.Safety

/-- A run of k + 1 steps goes on from the state the first step answers. -/
theorem run_succ_of_step {s u : State} (k : Nat) (h : step s = .next u) :
    Host.Core.run Sys2Proof.core (k + 1) s = Host.Core.run Sys2Proof.core k u := by
  have hcore : Sys2Proof.core.step s = .next u := h
  simp only [Host.Core.run, hcore]

/-- A run of k steps goes on by one more step. -/
theorem run_succ_of_run {k : Nat} {s t u : State} (hrun : Host.Core.run Sys2Proof.core k s = .next t)
    (hstep : step t = .next u) : Host.Core.run Sys2Proof.core (k + 1) s = .next u := by
  induction k generalizing s with
  | zero =>
    obtain rfl : s = t := Host.Outcome.next.inj hrun
    exact run_succ_of_step 0 hstep
  | succ k ih =>
    obtain ⟨v, hsv, hvt⟩ := exists_step_of_run_succ hrun
    exact (run_succ_of_step (k + 1) hsv).trans (ih hvt)

/-- As many steps as requests stand in front leave the rest of the queue waiting. -/
theorem exists_run_past {s : State} {front rest : List Request} (h : s.requests = front ++ rest) :
    ∃ t, Host.Core.run Sys2Proof.core front.length s = .next t ∧ t.requests = rest := by
  induction front generalizing s with
  | nil => exact ⟨s, rfl, h⟩
  | cons r front ih =>
    have hqueue := (State.serve_frame { s with requests := front ++ rest } r).2
    obtain ⟨t, hrun, ht⟩ := ih hqueue
    exact ⟨t, (run_succ_of_step front.length (step_of_requests_cons h)).trans hrun, ht⟩

/-- A configured block gives a request the same response wherever the configuration is kept. -/
theorem responseTo_serve_of_tierKept {s t : State} (h : TierKept s t) (hc : s.configured = true) (r : Request) :
    responseTo (t.serve r) r = responseTo (s.serve r) r := by
  obtain ⟨hparams, hkeep⟩ := h
  obtain ⟨hconf, htier⟩ := hkeep hc
  rw [responseTo_serve, responseTo_serve, hparams, htier, hconf, hc]

/-- Settles O43: the run serves what stands before the request and keeps the configuration (`run_tierKept`), which
with the request determines the response. -/
theorem interleavedRequestsGetTheirSoloResponse : Obligations.InterleavedRequestsGetTheirSoloResponse := by
  intro s before after r hc hq
  obtain ⟨m, hrun, hm⟩ := exists_run_past hq
  have hkept : TierKept { s with requests := [] } { m with requests := after } := run_tierKept _ s m hrun
  exact ⟨State.serve { m with requests := after } r, State.serve { s with requests := [] } r,
    run_succ_of_run hrun (step_of_requests_cons hm), (State.serve_frame _ r).2, step_cons s r [],
    responseTo_serve_of_tierKept hkept hc r⟩

end Sys2Proof.Machine
end

section
/-! O56: the bytes of a display list by word and byte, and the addresses of its cells (20_memory.md R45, R46). -/

namespace Sys2Proof.Machine

/-- Byte j of a word, lowest address first, is its bits 8*j+7 to 8*j (20_memory.md R45). -/
theorem wordBytes_getElem? (w : Word) {j : Nat} (hj : j < 4) : (wordBytes w)[j]? = some (w.extractLsb' (8 * j) 8) := by
  match j, hj with
  | 0, _ => rfl
  | 1, _ => rfl
  | 2, _ => rfl
  | 3, _ => rfl

/-- The bytes of word i are the four from 4*i on. -/
theorem streamBytes_getElem? {ws : List Word} {i j : Nat} {w : Word} (hi : ws[i]? = some w) (hj : j < 4) :
    (streamBytes ws)[4 * i + j]? = (wordBytes w)[j]? := by
  induction ws generalizing i with
  | nil => cases hi
  | cons v rest ih =>
    cases i with
    | zero =>
      obtain rfl : v = w := Option.some.inj hi
      rw [streamBytes, Nat.mul_zero, Nat.zero_add, List.getElem?_append_left hj]
    | succ i =>
      have hskip : 4 * (i + 1) + j = (wordBytes v).length + (4 * i + j) := by
        simp only [wordBytes, List.length_cons, List.length_nil]; omega
      rw [streamBytes, hskip, List.getElem?_append_right (Nat.le_add_right _ _), Nat.add_sub_cancel_left]
      exact ih hi

/-- The cells stand at consecutive addresses. -/
theorem cellsFrom_map_fst (a : Nat) (bs : List Byte) : (cellsFrom a bs).map Prod.fst = List.range' a bs.length := by
  induction bs generalizing a with
  | nil => rfl
  | cons b rest ih => simp only [cellsFrom, List.map_cons, ih, List.length_cons, List.range'_succ]

theorem cellsFrom_pairwise_lt (a : Nat) (bs : List Byte) : (cellsFrom a bs).Pairwise fun c d => c.1 < d.1 := by
  rw [← List.pairwise_map (f := Prod.fst), cellsFrom_map_fst]
  exact List.pairwise_lt_range'

/-- Settles O56: the image lays the byte stream at consecutive addresses from RAM_DL on, and `streamBytes_getElem?`
says which byte stands where in the stream. -/
theorem displayListImageIsLittleEndian : Obligations.DisplayListImageIsLittleEndian := by
  intro ws
  refine ⟨?_, fun i j w hi hj => ?_, cellsFrom_pairwise_lt _ _⟩
  · rw [displayListImage, cellsFrom_length, streamBytes_length]
  · rw [displayListImage, cellsFrom_getElem?, streamBytes_getElem? hi hj, wordBytes_getElem? w hj, Nat.add_assoc]
    rfl

end Sys2Proof.Machine
end

section
/-! O50: the windows of R41 at the sizes of 00_scope.md R7 rise without overlapping, so an address is classified by
the one that holds it (20_memory.md R42). -/

namespace Sys2Proof.Machine

theorem windowHolds_iff (p : Params) (w : Window) (n : Nat) :
    windowHolds p w n = true ↔ windowBase w ≤ n ∧ n < windowBase w + windowSize p w :=
  decide_eq_true_iff

/-- In a list of windows each of which ends before the later ones begin, the first that holds an address is the only
one. -/
theorem find?_windowHolds {p : Params} {n : Nat} {w : Window} {ws : List Window}
    (hrise : ws.Pairwise fun u v => windowBase u + windowSize p u ≤ windowBase v) (hmem : w ∈ ws)
    (hw : windowHolds p w n = true) : (ws.find? fun u => windowHolds p u n) = some w := by
  induction hrise with
  | nil => cases hmem
  | @cons u vs hbelow _ ih =>
    rcases List.mem_cons.mp hmem with rfl | hlater
    · exact List.find?_cons_of_pos hw
    · have hu : ¬ windowHolds p u n = true := by
        have hend := hbelow w hlater
        rw [windowHolds_iff] at hw ⊢
        omega
      exact (List.find?_cons_of_neg (p := fun u => windowHolds p u n) hu).trans (ih hlater)

theorem mem_windowOrder (w : Window) : w ∈ windowOrder := by
  cases w <;> decide

/-- Where the windows do not overlap, the region of an address is the window that holds it. -/
theorem regionOf_of_windowHolds {p : Params} {n : Nat} {w : Window}
    (hrise : windowOrder.Pairwise fun u v => windowBase u + windowSize p u ≤ windowBase v)
    (hw : windowHolds p w n = true) : regionOf p n = .window w := by
  rw [regionOf, find?_windowHolds hrise (mem_windowOrder w) hw]

/-- An address no window holds is unmapped. -/
theorem regionOf_of_not_windowHolds {p : Params} {n : Nat} (h : ∀ w, ¬ windowHolds p w n = true) :
    regionOf p n = .unmapped := by
  rw [regionOf, List.find?_eq_none.mpr fun w _ => h w]

/-- The classification reads the window sizes alone. -/
theorem regionOf_congr {p q : Params} (h : windowSize p = windowSize q) (n : Nat) : regionOf p n = regionOf q n := by
  simp only [regionOf, windowHolds, h]

/-- At the sizes of R7 each window ends before the next begins (20_memory.md R41). -/
theorem specWindows_rise :
    windowOrder.Pairwise fun u v => windowBase u + windowSize Params.specValues u ≤ windowBase v := by
  decide

/-- The addresses between the windows of R41 and above the last of them lie in none. -/
theorem not_windowHolds_of_gap {n : Nat}
    (h : (0x100000 ≤ n ∧ n < 0x1E0000) ∨ (0x303000 ≤ n ∧ n < 0x308000) ∨ 0x309880 ≤ n) (w : Window) :
    ¬ windowHolds Params.specValues w n = true := by
  rw [windowHolds_iff]
  cases w <;> simp only [windowBase, windowSize, Params.specValues] <;> omega

/-- A value is that of a conditional when it is that of each branch under the branch's condition. A long
chain is taken apart so, one condition at a time: `split_ifs` on all of R42's bounds costs too much. -/
theorem eq_ite_of {α : Type} {c : Prop} [Decidable c] {x y z : α} (hy : c → x = y) (hz : ¬ c → x = z) :
    x = if c then y else z :=
  (ite_eq_iff'.mpr ⟨fun h => (hy h).symm, fun h => (hz h).symm⟩).symm

/-- An address that is no 24-bit address is refused (20_memory.md R42). -/
theorem regionAnswer_of_out_of_range (p : Params) {a : Int} (h : a < 0 ∨ 2 ^ 24 ≤ a) :
    regionAnswer p true (.int a) = .refused .addrRange :=
  if_pos h

/-- A 24-bit address is classified, at the sizes of R7 as with the parameters of R7. -/
theorem regionAnswer_of_in_range {p : Params} (hsize : windowSize p = windowSize Params.specValues) {a : Int}
    (h : ¬ (a < 0 ∨ 2 ^ 24 ≤ a)) :
    regionAnswer p true (.int a) = .ok (.region (regionOf Params.specValues a.toNat)) := by
  rw [← regionOf_congr hsize]
  exact if_neg h

/-- The answer on an address of a window, given by its row of R41. -/
theorem regionAnswer_of_window {p : Params} (hsize : windowSize p = windowSize Params.specValues) {a : Int}
    (w : Window) (lo size : Nat) (hlo : windowBase w = lo) (hw : windowSize Params.specValues w = size)
    (h : lo ≤ a ∧ a < lo + size ∧ a < 0x1000000) :
    regionAnswer p true (.int a) = .ok (.region (.window w)) := by
  have hholds : windowHolds Params.specValues w a.toNat = true := by
    rw [windowHolds_iff]
    omega
  rw [regionAnswer_of_in_range hsize (by omega), regionOf_of_windowHolds specWindows_rise hholds]

/-- The answer on an address between or above the windows. -/
theorem regionAnswer_of_gap {p : Params} (hsize : windowSize p = windowSize Params.specValues) {a : Int}
    (h : (0x100000 ≤ a ∧ a < 0x1E0000) ∨ (0x303000 ≤ a ∧ a < 0x308000) ∨ (0x309880 ≤ a ∧ a < 0x1000000)) :
    regionAnswer p true (.int a) = .ok (.region .unmapped) := by
  rw [regionAnswer_of_in_range hsize (by omega), regionOf_of_not_windowHolds (not_windowHolds_of_gap (by omega))]

/-- Settles O50: in each interval the address is out of range, in the window named, or in a gap. -/
theorem regionClassificationOfEveryAddress : Obligations.RegionClassificationOfEveryAddress := by
  intro s rest a hc hg hdl hreg hcmd hreg2
  have hsize : windowSize s.params = windowSize Params.specValues := by
    funext w
    cases w <;> simp only [windowSize, hg, hdl, hreg, hcmd, hreg2, Params.specValues]
  rw [step_cons, State.serve, State.driveMap, hc]
  -- The two next states differ at most in the map port's response.
  congr 3
  refine eq_ite_of (fun _ => regionAnswer_of_out_of_range _ (by omega)) fun _ => ?_
  refine eq_ite_of (fun _ => regionAnswer_of_window hsize .ramG 0 0x100000 rfl rfl (by omega)) fun _ => ?_
  refine eq_ite_of (fun _ => regionAnswer_of_gap hsize (by omega)) fun _ => ?_
  refine eq_ite_of (fun _ => regionAnswer_of_window hsize .romFont 0x1E0000 0x11FFFC rfl rfl (by omega)) fun _ => ?_
  refine eq_ite_of (fun _ => regionAnswer_of_window hsize .romFontRoot 0x2FFFFC 4 rfl rfl (by omega)) fun _ => ?_
  refine eq_ite_of (fun _ => regionAnswer_of_window hsize .ramDl 0x300000 0x2000 rfl rfl (by omega)) fun _ => ?_
  refine eq_ite_of (fun _ => regionAnswer_of_window hsize .ramReg 0x302000 0x1000 rfl rfl (by omega)) fun _ => ?_
  refine eq_ite_of (fun _ => regionAnswer_of_gap hsize (by omega)) fun _ => ?_
  refine eq_ite_of (fun _ => regionAnswer_of_window hsize .ramCmd 0x308000 0x1000 rfl rfl (by omega)) fun _ => ?_
  refine eq_ite_of (fun _ => regionAnswer_of_window hsize .ramReg2 0x309000 0x800 rfl rfl (by omega)) fun _ => ?_
  refine eq_ite_of (fun _ => regionAnswer_of_window hsize .ramErrReport 0x309800 0x80 rfl rfl (by omega)) fun _ => ?_
  refine eq_ite_of (fun _ => regionAnswer_of_gap hsize (by omega)) fun _ => ?_
  exact regionAnswer_of_out_of_range _ (by omega)

end Sys2Proof.Machine
end

section
/-! The bits of a field as a mask of its word, and packing in terms of masks (00_scope.md R10, 30_encoding.md R64). -/

namespace Sys2Proof

/-- A field's mask is the run of its bits (R64). -/
theorem getLsbD_fieldMask (f : FieldDesc) {i : Nat} (hi : i < 32) :
    (fieldMask f).getLsbD i = decide (f.offset ≤ i ∧ i < f.offset + f.width) := by
  unfold fieldMask
  rw [BitVec.getLsbD_shiftLeft, BitVec.getLsbD_ofNat, Nat.testBit_two_pow_sub_one, Bool.eq_iff_iff]
  simp only [Bool.and_eq_true, Bool.not_eq_true', decide_eq_true_eq, decide_eq_false_iff_not]
  omega

/-- Two fields of which one ends below the other share no bit. -/
theorem fieldMask_and_fieldMask_of_le {f g : FieldDesc} (h : g.offset + g.width ≤ f.offset) :
    fieldMask f &&& fieldMask g = 0#32 := by
  apply BitVec.eq_of_getLsbD_eq
  intro i hi
  rw [BitVec.getLsbD_and, getLsbD_fieldMask f hi, getLsbD_fieldMask g hi, BitVec.getLsbD_zero, ← Bool.decide_and,
    decide_eq_false_iff_not]
  omega

/-- A placed operand stays within its field (R10). -/
theorem placed_and_fieldMask (v : Int) (f : FieldDesc) : placed v f &&& fieldMask f = placed v f := by
  apply BitVec.eq_of_getLsbD_eq
  intro i hi
  rw [BitVec.getLsbD_and, getLsbD_placed v f i hi, getLsbD_fieldMask f hi]
  by_cases hin : i < f.offset + f.width
  · by_cases hlow : f.offset ≤ i <;> simp [hin, hlow]
  · have hwide : field v f.width < 2 ^ (i - f.offset) :=
      (field_lt v f.width).trans_le (Nat.pow_le_pow_right (by decide) (by omega))
    simp [Nat.testBit_lt_two_pow hwide]

/-- A placed operand is outside every mask its field is outside of. -/
theorem placed_and_eq_zero {f : FieldDesc} {m : Word} (h : fieldMask f &&& m = 0#32) (v : Int) :
    placed v f &&& m = 0#32 := by
  rw [← placed_and_fieldMask, BitVec.and_assoc, h, BitVec.and_zero]

/-- Reading a field and placing the value back keeps exactly the bits of the field (R10, R71). -/
theorem placed_fieldBits (w : Word) (f : FieldDesc) : placed (fieldBits w f) f = w &&& fieldMask f := by
  have hres : field (fieldBits w f : Int) f.width = fieldBits w f := by
    exact_mod_cast field_of_fits (Int.natCast_nonneg _) (by exact_mod_cast fieldBits_lt w f)
  apply BitVec.eq_of_getLsbD_eq
  intro i hi
  rw [getLsbD_placed _ f i hi, hres, testBit_fieldBits, BitVec.getLsbD_and, getLsbD_fieldMask f hi]
  by_cases hlow : f.offset ≤ i
  · have hin : i - f.offset < f.width ↔ i < f.offset + f.width := by omega
    simp [hlow, hin, Nat.add_sub_cancel' hlow, Bool.and_comm]
  · simp [hlow]

/-- A field reads the bits under its mask alone (R71). -/
theorem fieldBits_and_fieldMask (w : Word) (f : FieldDesc) : fieldBits (w &&& fieldMask f) f = fieldBits w f := by
  apply Nat.eq_of_testBit_eq
  intro j
  rw [testBit_fieldBits, testBit_fieldBits, BitVec.getLsbD_and]
  by_cases hi : f.offset + j < 32
  · rw [getLsbD_fieldMask f hi]
    by_cases hj : j < f.width <;> simp [hj]
  · rw [BitVec.getLsbD_of_ge w _ (not_lt.mp hi), Bool.false_and]

/-- As a number a placed operand is its residue times 2^K (R10). -/
theorem toNat_placed (v : Int) {f : FieldDesc} (h : f.offset + f.width ≤ 32) :
    (placed v f).toNat = field v f.width * 2 ^ f.offset := by
  have hpow : 2 ^ f.width * 2 ^ f.offset ≤ 2 ^ 32 := by
    rw [← Nat.pow_add]
    exact Nat.pow_le_pow_right (by decide) (by omega)
  have hlt : field v f.width * 2 ^ f.offset < 2 ^ 32 :=
    (Nat.mul_lt_mul_of_pos_right (field_lt v f.width) (Nat.two_pow_pos _)).trans_le hpow
  have hres : field v f.width < 2 ^ 32 := (Nat.le_mul_of_pos_right _ (Nat.two_pow_pos _)).trans_lt hlt
  rw [placed, BitVec.toNat_shiftLeft, BitVec.toNat_ofNat, Nat.mod_eq_of_lt hres, Nat.shiftLeft_eq,
    Nat.mod_eq_of_lt hlt]

/-- A placed operand is read back as its residue (R71, R73). -/
theorem fieldBits_placed (v : Int) {f : FieldDesc} (h : f.offset + f.width ≤ 32) :
    fieldBits (placed v f) f = field v f.width := by
  rw [fieldBits, toNat_placed v h, Nat.mul_div_cancel _ (Nat.two_pow_pos _), Nat.mod_eq_of_lt (field_lt v f.width)]

/-- OR of disjoint words is addition (30_encoding.md R66). -/
theorem toNat_or_of_disjoint {a b : Word} (h : a &&& b = 0#32) : (a ||| b).toNat = a.toNat + b.toNat := by
  rw [← BitVec.add_eq_or_of_and_eq_zero a b h, BitVec.toNat_add_of_and_eq_zero h]

/-- The order of packing is immaterial, since OR is commutative (30_encoding.md R66). -/
theorem pack_perm {l l' : List (Int × FieldDesc)} (h : l.Perm l') (base : Word) : pack base l = pack base l' := by
  induction h generalizing base with
  | nil => rfl
  | cons q _ ih => exact ih _
  | swap q r l => simp only [pack, BitVec.or_assoc, BitVec.or_comm (placed q.1 q.2)]
  | trans _ _ ih ih' => exact (ih base).trans (ih' base)

/-- Under a mask outside every field a packed word is its base. -/
theorem pack_and_of_disjoint {l : List (Int × FieldDesc)} {m : Word} (h : ∀ q ∈ l, fieldMask q.2 &&& m = 0#32)
    (base : Word) : pack base l &&& m = base &&& m := by
  induction l generalizing base with
  | nil => rfl
  | cons q rest ih =>
    obtain ⟨hq, hrest⟩ := List.forall_mem_cons.mp h
    rw [pack, ih hrest, BitVec.and_or_distrib_right, placed_and_eq_zero hq, BitVec.or_zero]

/-- Fields of which each two are disjoint. -/
def DisjointFields (fs : List FieldDesc) : Prop :=
  fs.Pairwise fun f g => fieldMask f &&& fieldMask g = 0#32

/-- Under the mask of one of its fields a packed word holds that operand alone, where the fields and the base do not
overlap (30_encoding.md R66). -/
theorem pack_and_fieldMask {l : List (Int × FieldDesc)} {q : Int × FieldDesc} {base : Word}
    (hdisj : DisjointFields (l.map Prod.snd)) (hbase : ∀ r ∈ l, base &&& fieldMask r.2 = 0#32) (hq : q ∈ l) :
    pack base l &&& fieldMask q.2 = placed q.1 q.2 := by
  induction l generalizing base with
  | nil => cases hq
  | cons r rest ih =>
    obtain ⟨hhead, hrest⟩ := List.pairwise_cons.mp hdisj
    have hhead : ∀ u ∈ rest, fieldMask r.2 &&& fieldMask u.2 = 0#32 := fun u hu =>
      hhead u.2 (List.mem_map_of_mem hu)
    obtain ⟨hbr, hbrest⟩ := List.forall_mem_cons.mp hbase
    rcases List.mem_cons.mp hq with rfl | hmem
    · have hout : ∀ u ∈ rest, fieldMask u.2 &&& fieldMask q.2 = 0#32 := fun u hu => by
        rw [BitVec.and_comm, hhead u hu]
      rw [pack, pack_and_of_disjoint hout, BitVec.and_or_distrib_right, hbr, placed_and_fieldMask, BitVec.zero_or]
    · refine ih hrest (fun u hu => ?_) hmem
      rw [BitVec.and_or_distrib_right, hbrest u hu, placed_and_eq_zero (hhead u hu), BitVec.or_zero]

/-- As a number a packed word is the sum of its base and its placed operands, where they do not overlap
(30_encoding.md R66). -/
theorem toNat_pack {l : List (Int × FieldDesc)} {base : Word} (hdisj : DisjointFields (l.map Prod.snd))
    (hbase : ∀ q ∈ l, base &&& fieldMask q.2 = 0#32) (hfit : ∀ q ∈ l, q.2.offset + q.2.width ≤ 32) :
    (pack base l).toNat = base.toNat + (l.map fun q => field q.1 q.2.width * 2 ^ q.2.offset).sum := by
  induction l generalizing base with
  | nil => rfl
  | cons q rest ih =>
    obtain ⟨hhead, hrest⟩ := List.pairwise_cons.mp hdisj
    obtain ⟨hbq, hbrest⟩ := List.forall_mem_cons.mp hbase
    obtain ⟨hfq, hfrest⟩ := List.forall_mem_cons.mp hfit
    have hor : (base ||| placed q.1 q.2).toNat = base.toNat + field q.1 q.2.width * 2 ^ q.2.offset := by
      rw [← toNat_placed q.1 hfq]
      refine toNat_or_of_disjoint ?_
      rw [← placed_and_fieldMask, BitVec.and_comm (placed _ _), ← BitVec.and_assoc, hbq, BitVec.zero_and]
    have hbase' : ∀ r ∈ rest, (base ||| placed q.1 q.2) &&& fieldMask r.2 = 0#32 := fun r hr => by
      rw [BitVec.and_or_distrib_right, hbrest r hr, placed_and_eq_zero (hhead r.2 (List.mem_map_of_mem hr)),
        BitVec.or_zero]
    rw [pack, ih hrest hbase' hfrest, hor, List.map_cons, List.sum_cons, Nat.add_assoc]

/-- Packing the fields read from a word keeps the bits of the base and of the fields (R10, R71). -/
theorem pack_fieldBits (w m : Word) (fs : List FieldDesc) :
    pack (w &&& m) (fs.map fun f => ((fieldBits w f : Int), f)) =
      w &&& fs.foldl (fun m f => m ||| fieldMask f) m := by
  induction fs generalizing m with
  | nil => rfl
  | cons f rest ih =>
    rw [List.map_cons, pack, placed_fieldBits, ← BitVec.and_or_distrib_left, ih, List.foldl_cons]

/-- Packing the residues of the operands is packing the operands (30_encoding.md R73). -/
theorem pack_residues (base : Word) (l : List (Int × FieldDesc)) :
    pack base (l.map fun q => ((field q.1 q.2.width : Int), q.2)) = pack base l := by
  induction l generalizing base with
  | nil => rfl
  | cons q rest ih => rw [List.map_cons, pack, pack, placed_congr (field_field q.1 q.2.width), ih]

/-- Operands with equal residues are packed alike (30_encoding.md R73). -/
theorem pack_congr {args args' : List Int} {fs : List FieldDesc} (hlen : args.length = fs.length)
    (hlen' : args'.length = fs.length)
    (h : ∀ (k : Nat) (f : FieldDesc), fs[k]? = some f → field (args.getD k 0) f.width = field (args'.getD k 0) f.width)
    (base : Word) : pack base (args.zip fs) = pack base (args'.zip fs) := by
  induction fs generalizing args args' base with
  | nil => rw [List.zip_nil_right, List.zip_nil_right]
  | cons f fs ih =>
    obtain ⟨v, vs, rfl⟩ := List.exists_cons_of_length_eq_add_one hlen
    obtain ⟨v', vs', rfl⟩ := List.exists_cons_of_length_eq_add_one hlen'
    have hhead : placed v f = placed v' f := placed_congr (h 0 f rfl)
    rw [List.zip_cons_cons, List.zip_cons_cons, pack, pack, hhead]
    exact ih (Nat.succ.inj hlen) (Nat.succ.inj hlen') (fun k g hk => h (k + 1) g hk) _

/-- Another k-th operand changes no bit outside the k-th field (30_encoding.md R73). -/
theorem pack_set_and_not_fieldMask {fs : List FieldDesc} {k : Nat} {f : FieldDesc} (hk : fs[k]? = some f)
    (args : List Int) (v : Int) (base : Word) :
    pack base ((args.set k v).zip fs) &&& ~~~(fieldMask f) = pack base (args.zip fs) &&& ~~~(fieldMask f) := by
  induction fs generalizing args k base with
  | nil => cases hk
  | cons g fs ih =>
    cases args with
    | nil => rfl
    | cons u us =>
      cases k with
      | zero =>
        obtain rfl : g = f := Option.some.inj hk
        have hout (x : Int) : placed x g &&& ~~~(fieldMask g) = 0#32 :=
          placed_and_eq_zero (BitVec.and_not_self _) x
        simp only [List.set_cons_zero, List.zip_cons_cons, pack, BitVec.or_comm base, pack_or,
          BitVec.and_or_distrib_right, hout]
      | succ k => exact ih hk us _

end Sys2Proof
end

section
/-! O34, O35, O36: the header and the fields of a row of OPSEL, and the word they make (30_encoding.md R61 to R73). -/

namespace Sys2Proof

/-- The header is every bit above the operand area (30_encoding.md R61, R62). -/
theorem headerMask_eq (r : OpselRow) : headerMask r = BitVec.allOnes 32 <<< operandWidth r.format := by
  unfold headerMask
  cases r.format <;> rfl

/-- The header's value is the opcode above the operand area (30_encoding.md R61, R62). -/
theorem matchWord_eq (r : OpselRow) : matchWord r = BitVec.ofNat 32 r.opcode <<< operandWidth r.format := by
  unfold matchWord
  cases r.format <;> rfl

theorem matchWord_and_headerMask (r : OpselRow) : matchWord r &&& headerMask r = matchWord r := by
  rw [headerMask_eq, matchWord_eq, ← BitVec.shiftLeft_and_distrib, BitVec.and_allOnes]

/-- A field of the operand area lies outside the header (R66). -/
theorem fieldMask_and_headerMask {r : OpselRow} {f : FieldDesc} (h : f.offset + f.width ≤ operandWidth r.format) :
    fieldMask f &&& headerMask r = 0#32 := by
  apply BitVec.eq_of_getLsbD_eq
  intro i hi
  rw [BitVec.getLsbD_and, getLsbD_fieldMask f hi, headerMask_eq, BitVec.getLsbD_shiftLeft, BitVec.getLsbD_zero]
  by_cases hin : i < operandWidth r.format
  · simp [hin]
  · have hout : ¬ (f.offset ≤ i ∧ i < f.offset + f.width) := by omega
    simp [hout]

theorem opsel_fieldMask_and_headerMask (p : Params) (op : DlOp) {f : FieldDesc} (hf : f ∈ (opsel p op).fields) :
    fieldMask f &&& headerMask (opsel p op) = 0#32 :=
  fieldMask_and_headerMask (opsel_field_fits p op f hf).2

theorem opsel_matchWord_and_fieldMask (p : Params) (op : DlOp) {f : FieldDesc} (hf : f ∈ (opsel p op).fields) :
    matchWord (opsel p op) &&& fieldMask f = 0#32 := by
  rw [← matchWord_and_headerMask, BitVec.and_assoc, BitVec.and_comm (headerMask _),
    opsel_fieldMask_and_headerMask p op hf, BitVec.and_zero]

theorem opsel_field_end_le (p : Params) (op : DlOp) {f : FieldDesc} (hf : f ∈ (opsel p op).fields) :
    f.offset + f.width ≤ 32 :=
  (opsel_field_width_le p op f hf).trans (by decide)

/-- Every row lists its fields from the high bits down (30_encoding.md R68). -/
theorem opsel_fields_descend (p : Params) (op : DlOp) :
    (opsel p op).fields.Pairwise fun f g => g.offset + g.width ≤ f.offset := by
  cases op <;> exact of_decide_eq_true rfl

theorem opsel_disjointFields (p : Params) (op : DlOp) : DisjointFields (opsel p op).fields :=
  (opsel_fields_descend p op).imp fieldMask_and_fieldMask_of_le

section OperandPerField

variable {p : Params} {op : DlOp} {args : List Int} (hlen : args.length = (opsel p op).fields.length)
include hlen

theorem zip_disjointFields : DisjointFields ((args.zip (opsel p op).fields).map Prod.snd) := by
  rw [List.map_snd_zip hlen.ge]
  exact opsel_disjointFields p op

omit hlen in
theorem mem_fields_of_mem_zip {q : Int × FieldDesc} (hq : q ∈ args.zip (opsel p op).fields) :
    q.2 ∈ (opsel p op).fields :=
  (List.of_mem_zip hq).2

theorem encodeWord_and_fieldMask {q : Int × FieldDesc} (hq : q ∈ args.zip (opsel p op).fields) :
    encodeWord p op args &&& fieldMask q.2 = placed q.1 q.2 :=
  pack_and_fieldMask (zip_disjointFields hlen)
    (fun _ hr => opsel_matchWord_and_fieldMask p op (mem_fields_of_mem_zip hr)) hq

/-- Each field of a packed word is the residue of its own operand (30_encoding.md R71). -/
theorem fieldBits_encodeWord {q : Int × FieldDesc} (hq : q ∈ args.zip (opsel p op).fields) :
    fieldBits (encodeWord p op args) q.2 = field q.1 q.2.width := by
  rw [← fieldBits_and_fieldMask, encodeWord_and_fieldMask hlen hq,
    fieldBits_placed q.1 (opsel_field_end_le p op (mem_fields_of_mem_zip hq))]

/-- What is read from the fields of a packed word, as a function of the operands. -/
theorem map_fields_encodeWord {α : Type} (g : FieldDesc → Nat → α) :
    (opsel p op).fields.map (fun f => g f (fieldBits (encodeWord p op args) f)) =
      (args.zip (opsel p op).fields).map fun q => g q.2 (field q.1 q.2.width) := by
  conv_lhs => rw [← List.map_snd_zip hlen.ge, List.map_map]
  exact List.map_congr_left fun q hq => congrArg (g q.2) (fieldBits_encodeWord hlen hq)

omit hlen in
/-- A packed word has its row's header (30_encoding.md R67). -/
theorem encodeWord_and_headerMask :
    encodeWord p op args &&& headerMask (opsel p op) = matchWord (opsel p op) := by
  have hout : ∀ q ∈ args.zip (opsel p op).fields, fieldMask q.2 &&& headerMask (opsel p op) = 0#32 :=
    fun q hq => opsel_fieldMask_and_headerMask p op (mem_fields_of_mem_zip hq)
  rw [encodeWord, pack_and_of_disjoint hout, matchWord_and_headerMask]

/-- A packed word is made of its header and fields: packing what they hold gives the word itself (R67). -/
theorem encodeWord_and_usedBits :
    encodeWord p op args &&& usedBits (opsel p op) = encodeWord p op args := by
  rw [usedBits, ← pack_fieldBits, encodeWord_and_headerMask,
    map_fields_encodeWord hlen (fun f u => ((u : Int), f)), pack_residues]
  rfl

/-- Every bit of a packed word outside header and fields is 0 (30_encoding.md R67). -/
theorem encodeWord_and_not_usedBits :
    encodeWord p op args &&& ~~~(usedBits (opsel p op)) = 0#32 := by
  rw [← encodeWord_and_usedBits hlen, BitVec.and_assoc, BitVec.and_not_self]
  exact BitVec.and_zero

end OperandPerField

/-- Settles O34: the fields of a row descend without overlap below its header, so OR is addition (`toNat_pack`); the
order of packing is that of an OR (`pack_perm`). -/
theorem fieldsNeverOverlap : Obligations.FieldsNeverOverlap := by
  intro p op args hlen
  refine ⟨opsel_disjointFields p op, fun f hf => opsel_fieldMask_and_headerMask p op hf, ?_,
    fun l hl => pack_perm hl _⟩
  exact toNat_pack (zip_disjointFields hlen)
    (fun _ hq => opsel_matchWord_and_fieldMask p op (mem_fields_of_mem_zip hq))
    (fun _ hq => opsel_field_end_le p op (mem_fields_of_mem_zip hq))

/-- Settles O35: header, unused bits and fields of a packed word, each by its lemma. -/
theorem unusedBitsAreZeroAndFieldsExact : Obligations.UnusedBitsAreZeroAndFieldsExact :=
  fun _ _ _ hlen =>
    ⟨encodeWord_and_headerMask, encodeWord_and_not_usedBits hlen, fun _ hq => fieldBits_encodeWord hlen hq⟩

/-- Settles O36: packing sees residues alone (`pack_congr`), each in its own field (`pack_set_and_not_fieldMask`). -/
theorem wordDependsOnResiduesAlone : Obligations.WordDependsOnResiduesAlone := by
  intro p op args hlen
  refine ⟨fun args' hlen' hres => ?_, fun k f v hk => pack_set_and_not_fieldMask hk args v _⟩
  refine pack_congr hlen hlen' (fun k f hk => ?_) _
  have hcast : (field (args.getD k 0) f.width : Int) = field (args'.getD k 0) f.width := by
    rw [field_cast, field_cast]
    exact_mod_cast hres k f hk
  exact_mod_cast hcast

end Sys2Proof
end

section
/-! O37: which row a word names: its header against the table (30_encoding.md R63, R68, R69). -/

namespace Sys2Proof

/-- The word has the row's match value under its mask (30_encoding.md R68). -/
def RowMatches (p : Params) (op : DlOp) (w : Word) : Prop :=
  w &&& headerMask (opsel p op) = matchWord (opsel p op)

/-- The first opcode that no row has at the tier (30_encoding.md R70). -/
def firstReservedOpcode (t : Tier) : Nat :=
  if t = .t2 then 0x2E else 0x30

/-- The parameters show in widths of fields alone. -/
theorem opsel_header_congr (p q : Params) (op : DlOp) :
    (opsel p op).format = (opsel q op).format ∧ (opsel p op).opcode = (opsel q op).opcode ∧
      (opsel p op).tiers = (opsel q op).tiers := by
  cases op <;> exact ⟨rfl, rfl, rfl⟩

theorem o8RowAt_congr (p q : Params) (t : Tier) (opcode : Nat) : o8RowAt p t opcode = o8RowAt q t opcode := by
  unfold o8RowAt
  congr 1
  funext op
  obtain ⟨hformat, hopcode, htiers⟩ := opsel_header_congr p q op
  rw [hformat, hopcode, htiers]

/-- The row the decoder finds has the opcode and is visible (30_encoding.md R71). -/
theorem o8RowAt_eq_some {p : Params} {t : Tier} {opcode : Nat} {op : DlOp} (h : o8RowAt p t opcode = some op) :
    (opsel p op).format = .o8 ∧ (opsel p op).opcode = opcode ∧ tierVisible (opsel p op).tiers t = true := by
  have hfound := List.find?_some h
  simp only [Bool.and_eq_true, beq_iff_eq] at hfound
  obtain ⟨⟨hformat, hopcode⟩, hvis⟩ := hfound
  exact ⟨hformat, hopcode, hvis⟩

/-- A visible O8 row is the one found under its opcode: no other visible row has it (30_encoding.md R69). -/
theorem o8RowAt_opcode {p : Params} {t : Tier} {op : DlOp} (hformat : (opsel p op).format = .o8)
    (hvis : tierVisible (opsel p op).tiers t = true) : o8RowAt p t (opsel p op).opcode = some op := by
  have htable : ∀ op ∈ DlOp.all, (opsel Params.specValues op).format = .o8 →
      tierVisible (opsel Params.specValues op).tiers t = true →
      o8RowAt Params.specValues t (opsel Params.specValues op).opcode = some op := by
    cases t <;> decide
  obtain ⟨hf, ho, ht⟩ := opsel_header_congr p Params.specValues op
  rw [o8RowAt_congr p Params.specValues, ho]
  exact htable op op.mem_all (hf ▸ hformat) (ht ▸ hvis)

/-- The opcodes with a visible row are those below the first reserved one (30_encoding.md R70). -/
theorem o8RowAt_eq_none_iff (p : Params) (t : Tier) {opcode : Nat} (h : opcode < 0x40) :
    o8RowAt p t opcode = none ↔ firstReservedOpcode t ≤ opcode := by
  have htable : ∀ c < 0x40, o8RowAt Params.specValues t c = none ↔ firstReservedOpcode t ≤ c := by
    cases t <;> decide
  rw [o8RowAt_congr p Params.specValues]
  exact htable opcode h

/-- The rows with a discriminator are VERTEX2F and VERTEX2II (30_encoding.md R62). -/
theorem opsel_format (p : Params) (op : DlOp) :
    (opsel p op).format = if op = .vertex2f ∨ op = .vertex2ii then .v2 else .o8 := by
  cases op <;> rfl

theorem eq_of_format_v2 {p : Params} {op : DlOp} (h : (opsel p op).format = .v2) : op = .vertex2f ∨ op = .vertex2ii := by
  by_contra hop
  rw [opsel_format, if_neg hop] at h
  cases h

theorem opsel_opcode_lt (p : Params) (op : DlOp) :
    (opsel p op).opcode < match (opsel p op).format with | .o8 => 0x40 | .v2 => 3 := by
  cases op <;> exact of_decide_eq_true rfl

/-- A word matches a row when its bits above the operand area are the row's opcode. -/
theorem rowMatches_iff (p : Params) (op : DlOp) (w : Word) :
    RowMatches p op w ↔ w.toNat / 2 ^ operandWidth (opsel p op).format = (opsel p op).opcode := by
  have hop := opsel_opcode_lt p op
  have hw := w.isLt
  unfold RowMatches
  rw [headerMask_eq, matchWord_eq, ← BitVec.shiftLeft_ushiftRight, BitVec.toNat_inj.symm]
  simp only [BitVec.toNat_shiftLeft, BitVec.toNat_ushiftRight, BitVec.toNat_ofNat, Nat.shiftLeft_eq,
    Nat.shiftRight_eq_div_pow]
  cases hf : (opsel p op).format <;> simp only [hf, operandWidth] at hop ⊢ <;> omega

/-- Bits 31:30 of a word, as R71 tells them apart. -/
theorem discriminator_cases (w : Word) :
    w.toNat / 2 ^ 30 = 0 ∨ w.toNat / 2 ^ 30 = 1 ∨ w.toNat / 2 ^ 30 = 2 ∨ w.toNat / 2 ^ 30 = 3 := by
  have hw := w.isLt
  omega

/-- The row the decoder reads a word by, if its header is one of the tier; `decodeWord_of_wordRow` ties it to the
decoder. -/
def wordRow (p : Params) (t : Tier) (w : Word) : Option DlOp :=
  match w.toNat / 2 ^ 30 with
  | 0 => o8RowAt p t (w.toNat / 2 ^ 24)
  | 1 => some .vertex2f
  | 2 => some .vertex2ii
  | _ => none

/-- The row of a word is the one that is visible and matches it: the two formats differ in bits 31:30, and an opcode
has at most one visible row (30_encoding.md R69). -/
theorem wordRow_eq_some_iff (p : Params) (t : Tier) (w : Word) (op : DlOp) :
    wordRow p t w = some op ↔ tierVisible (opsel p op).tiers t = true ∧ RowMatches p op w := by
  rw [rowMatches_iff]
  constructor
  · intro h
    rcases discriminator_cases w with htop | htop | htop | htop <;> simp only [wordRow, htop] at h
    · obtain ⟨hformat, hopcode, hvis⟩ := o8RowAt_eq_some h
      exact ⟨hvis, by rw [hformat]; exact hopcode.symm⟩
    · cases h
      exact ⟨by cases t <;> rfl, htop⟩
    · cases h
      exact ⟨by cases t <;> rfl, htop⟩
    · cases h
  · rintro ⟨hvis, hmatch⟩
    cases hformat : (opsel p op).format with
    | o8 =>
      have hlt := opsel_opcode_lt p op
      simp only [hformat, operandWidth] at hmatch hlt
      have htop : w.toNat / 2 ^ 30 = 0 := by omega
      simp only [wordRow, htop, hmatch]
      exact o8RowAt_opcode hformat hvis
    | v2 =>
      rcases eq_of_format_v2 hformat with rfl | rfl
      · have htop : w.toNat / 2 ^ 30 = 1 := hmatch
        simp only [wordRow, htop]
      · have htop : w.toNat / 2 ^ 30 = 2 := hmatch
        simp only [wordRow, htop]

/-- The headers without a visible row (30_encoding.md R70). -/
theorem wordRow_eq_none_iff (p : Params) (t : Tier) (w : Word) :
    wordRow p t w = none ↔
      w.toNat / 2 ^ 30 = 3 ∨ (w.toNat / 2 ^ 30 = 0 ∧ firstReservedOpcode t ≤ w.toNat / 2 ^ 24) := by
  rcases discriminator_cases w with htop | htop | htop | htop <;> simp only [wordRow, htop]
  · rw [o8RowAt_eq_none_iff p t (by omega)]
    simp
  · simp
  · simp
  · simp

/-- Settles O37: each of the two rows is the row of the word. -/
theorem atMostOneVisibleRowMatchesAWord : Obligations.AtMostOneVisibleRowMatchesAWord := by
  intro p t w a b hva hvb hma hmb
  have ha := (wordRow_eq_some_iff p t w a).mpr ⟨hva, hma⟩
  have hb := (wordRow_eq_some_iff p t w b).mpr ⟨hvb, hmb⟩
  exact Option.some.inj (ha.symm.trans hb)

end Sys2Proof
end

section
/-! O30, O32, O33: the decoder on every word, and the round trip in both directions (30_encoding.md R70 to R72). -/

namespace Sys2Proof

open Sys2Proof.Safety

/-- The decoder reads a word by its row (30_encoding.md R71). -/
theorem decodeWord_of_wordRow {p : Params} {t : Tier} {w : Word} {op : DlOp} (h : wordRow p t w = some op) :
    decodeWord p t w = decodeRow p op w := by
  rcases discriminator_cases w with htop | htop | htop | htop <;>
    simp only [wordRow, htop, Option.some.injEq, reduceCtorEq] at h <;> simp only [decodeWord, htop, h]

/-- The decoder refuses a word without a row (30_encoding.md R71). -/
theorem decodeWord_of_no_wordRow {p : Params} {t : Tier} {w : Word} (h : wordRow p t w = none) :
    ∃ reason, decodeWord p t w = .notEncoderOutput reason := by
  rcases discriminator_cases w with htop | htop | htop | htop <;>
    simp only [wordRow, htop, reduceCtorEq] at h <;> simp only [decodeWord, htop]
  · exact ⟨.reservedOpcode, by rw [h]⟩
  · exact ⟨.reservedTop, rfl⟩

theorem decodeRow_of_unused_zero {p : Params} {op : DlOp} {w : Word} (h : w &&& ~~~(usedBits (opsel p op)) = 0#32) :
    decodeRow p op w = .instr (instrOfOp op ((opsel p op).fields.map fun f => (fieldBits w f : Int))) :=
  if_neg (not_not.mpr h)

theorem decodeRow_of_unused_nonzero {p : Params} {op : DlOp} {w : Word}
    (h : w &&& ~~~(usedBits (opsel p op)) ≠ 0#32) : decodeRow p op w = .notEncoderOutput .nonzeroUnusedBits :=
  if_pos h

theorem decodeWord_of_rowMatches {p : Params} {t : Tier} {op : DlOp} {w : Word}
    (hvis : tierVisible (opsel p op).tiers t = true) (hmatch : RowMatches p op w) :
    decodeWord p t w = decodeRow p op w :=
  decodeWord_of_wordRow ((wordRow_eq_some_iff p t w op).mpr ⟨hvis, hmatch⟩)

/-- The decoder reads a packed word as the row with the residues of the operands (30_encoding.md R72). -/
theorem decodeWord_encodeWord {p : Params} {t : Tier} {op : DlOp} {args : List Int}
    (hlen : args.length = (opsel p op).fields.length) (hvis : tierVisible (opsel p op).tiers t = true) :
    decodeWord p t (encodeWord p op args) =
      .instr (instrOfOp op ((args.zip (opsel p op).fields).map fun q => (field q.1 q.2.width : Int))) := by
  rw [decodeWord_of_rowMatches hvis encodeWord_and_headerMask,
    decodeRow_of_unused_zero (encodeWord_and_not_usedBits hlen),
    map_fields_encodeWord hlen (fun _ u => (u : Int))]

/-- What is read by the decoder: a visible row that the word matches and has no unused bit of, with the fields of
the word (30_encoding.md R71). -/
theorem decodeWord_eq_instr {p : Params} {t : Tier} {w : Word} {i : Instr} (h : decodeWord p t w = .instr i) :
    ∃ op, tierVisible (opsel p op).tiers t = true ∧ RowMatches p op w ∧ w &&& ~~~(usedBits (opsel p op)) = 0#32 ∧
      i = instrOfOp op ((opsel p op).fields.map fun f => (fieldBits w f : Int)) := by
  cases hrow : wordRow p t w with
  | none =>
    obtain ⟨_, href⟩ := decodeWord_of_no_wordRow hrow
    cases href.symm.trans h
  | some op =>
    have hread := (decodeWord_of_wordRow hrow).symm.trans h
    obtain ⟨hvis, hmatch⟩ := (wordRow_eq_some_iff p t w op).mp hrow
    by_cases hunused : w &&& ~~~(usedBits (opsel p op)) = 0#32
    · rw [decodeRow_of_unused_zero hunused] at hread
      exact ⟨op, hvis, hmatch, hunused, (Decoded.instr.inj hread).symm⟩
    · rw [decodeRow_of_unused_nonzero hunused] at hread
      cases hread

/-- A word with no bit outside a mask lies within it. -/
theorem and_eq_self_of_and_not {w m : Word} (h : w &&& ~~~m = 0#32) : w &&& m = w := by
  calc
    w &&& m = w &&& m ||| w &&& ~~~m := by rw [h, BitVec.or_zero]
    _ = w := by rw [← BitVec.and_or_distrib_left, BitVec.or_not_self, BitVec.and_allOnes]

/-- A word that matches a row and has no unused bit is packed from its own fields (30_encoding.md R72). -/
theorem encodeWord_fieldBits {p : Params} {op : DlOp} {w : Word} (hmatch : RowMatches p op w)
    (hunused : w &&& ~~~(usedBits (opsel p op)) = 0#32) :
    encodeWord p op ((opsel p op).fields.map fun f => (fieldBits w f : Int)) = w := by
  rw [encodeWord, ← List.map_prod_right_eq_zip, ← hmatch, pack_fieldBits]
  exact and_eq_self_of_and_not hunused

theorem argsFit_iff (args : List Int) (fs : List FieldDesc) :
    argsFit args fs = true ↔
      args.length = fs.length ∧ ∀ q ∈ args.zip fs, 0 ≤ q.1 ∧ q.1 < ((2 ^ q.2.width : Nat) : Int) := by
  induction args generalizing fs with
  | nil => cases fs <;> simp [argsFit]
  | cons v vs ih =>
    cases fs with
    | nil => simp [argsFit]
    | cons f fs => simp [argsFit, fits, nonNegative, belowWidth, ih, and_left_comm]

/-- The operands are recovered from the fields where the reading of each field gives its operand back. -/
theorem zip_map_eq_args {args : List Int} {fs : List FieldDesc} (hlen : args.length = fs.length)
    {g : Int × FieldDesc → Int} (h : ∀ q ∈ args.zip fs, g q = q.1) : (args.zip fs).map g = args :=
  (List.map_congr_left h).trans (List.map_fst_zip hlen.le)

/-- An operand in its field's view is the signed view of its residue (30_encoding.md R77). -/
theorem signedView_field {f : FieldDesc} {v : Int} (hpos : 0 < f.width)
    (h : if f.signed then -(2 ^ (f.width - 1)) ≤ v ∧ v < 2 ^ (f.width - 1) else 0 ≤ v ∧ v < 2 ^ f.width) :
    signedView f (field v f.width) = v := by
  unfold signedView
  cases hs : f.signed <;> simp only [hs, if_true, if_false, Bool.false_eq_true] at h ⊢
  · exact field_of_fits h.1 (by exact_mod_cast h.2)
  · exact sext_field hpos (by exact_mod_cast h.1) (by exact_mod_cast h.2)

/-- Operands that fit their fields are read back as they are (30_encoding.md R72). -/
theorem decodeWord_encodeWord_of_argsFit {p : Params} {t : Tier} {op : DlOp} {args : List Int}
    (hvis : tierVisible (opsel p op).tiers t = true) (hfit : argsFit args (opsel p op).fields = true) :
    decodeWord p t (encodeWord p op args) = .instr (instrOfOp op args) := by
  obtain ⟨hlen, hrange⟩ := (argsFit_iff _ _).mp hfit
  have hargs := zip_map_eq_args hlen fun q hq => field_of_fits (hrange q hq).1 (hrange q hq).2
  rw [decodeWord_encodeWord hlen hvis, hargs]

/-- Settles O30: the fields of a packed word are the residues (`decodeWord_encodeWord`), of which each of the two
conditions makes the operands again. -/
theorem decodeRecoversResiduesOfOperands : Obligations.DecodeRecoversResiduesOfOperands := by
  intro p t op args hvis hlen
  refine ⟨?_, fun hfit => decodeWord_encodeWord_of_argsFit hvis hfit, fun hview => ?_⟩
  · have hres (q : Int × FieldDesc) : (field q.1 q.2.width : Int) = q.1 % 2 ^ q.2.width := by
      exact_mod_cast field_cast q.1 q.2.width
    simp only [decodeWord_encodeWord hlen hvis, hres]
  · rw [signedArgs, map_fields_encodeWord hlen signedView]
    refine zip_map_eq_args hlen fun q hq => ?_
    exact signedView_field (opsel_field_fits p op q.2 (mem_fields_of_mem_zip hq)).1 (hview q hq)

/-- A value read from a field fits it (30_encoding.md R72). -/
theorem argsFit_fieldBits (w : Word) (fs : List FieldDesc) :
    argsFit (fs.map fun f => (fieldBits w f : Int)) fs = true := by
  refine (argsFit_iff _ _).mpr ⟨List.length_map _, fun q hq => ?_⟩
  rw [← List.map_prod_right_eq_zip] at hq
  obtain ⟨f, _, rfl⟩ := List.mem_map.mp hq
  exact ⟨Int.natCast_nonneg _, Int.ofNat_lt.mpr (fieldBits_lt w f)⟩

section RowInstruction

variable {p : Params} {op : DlOp} {args : List Int}

theorem wellFormed_instrOfOp (hlen : args.length = (opsel p op).fields.length) :
    (instrOfOp op args).wellFormed p = argsFit args (opsel p op).fields := by
  simp only [Instr.wellFormed, item_instrOfOp, args_instrOfOp p op args hlen]

theorem encode_instrOfOp (hlen : args.length = (opsel p op).fields.length) :
    encode p (instrOfOp op args) = .word (encodeWord p op args) := by
  simp only [encode, item_instrOfOp, args_instrOfOp p op args hlen]

theorem instrTiers_instrOfOp : instrTiers p (instrOfOp op args) = (opsel p op).tiers := by
  simp only [instrTiers, item_instrOfOp]

end RowInstruction

/-- The command read from a byte has it and is visible (44_host_commands.md R232). -/
theorem hostRowAt_eq_some {t : Tier} {b : Byte} {c : HostCmd} (h : hostRowAt t b = some c) :
    (hostRow c).code = b ∧ tierVisible (hostRow c).tiers t = true := by
  have hfound := List.find?_some h
  simp only [Bool.and_eq_true, beq_iff_eq] at hfound
  exact hfound

/-- A visible command is read from its byte, CORERST as RST_PULSE, whose byte it shares (44_host_commands.md R240). -/
theorem hostRowAt_code {t : Tier} {c : HostCmd} (hvis : tierVisible (hostRow c).tiers t = true) :
    hostRowAt t (hostRow c).code = some (if c = .corerst then .rstPulse else c) := by
  have htable : ∀ c ∈ HostCmd.all, tierVisible (hostRow c).tiers t = true →
      hostRowAt t (hostRow c).code = some (if c = .corerst then .rstPulse else c) := by
    cases t <;> decide
  exact htable c c.mem_all hvis

/-- What is read from a frame: a visible command of its byte, with its parameter byte (log entry 12). -/
theorem decodeFrame_eq_instr {t : Tier} {f : Frame} {i : Instr} (h : decodeFrame t f = .instr i) :
    ∃ c, (hostRow c).code = f.command ∧ tierVisible (hostRow c).tiers t = true ∧
      i = instrOfHost c f.param.toNat := by
  unfold decodeFrame at h
  cases hrow : hostRowAt t f.command with
  | none => rw [hrow] at h; cases h
  | some c =>
    rw [hrow] at h
    obtain ⟨hcode, hvis⟩ := hostRowAt_eq_some hrow
    exact ⟨c, hcode, hvis, (Decoded.instr.inj h).symm⟩

/-- A parameter byte is its own residue. -/
theorem ofNat_field_toNat (b : Byte) : BitVec.ofNat 8 (field (b.toNat : Int) 8) = b := by
  have hres : (field (b.toNat : Int) 8 : Int) = b.toNat :=
    field_of_fits (Int.natCast_nonneg _) (by exact_mod_cast b.isLt)
  rw [Int.ofNat_inj.mp hres, BitVec.ofNat_toNat, BitVec.setWidth_eq]

/-- Settles O32: a word is packed from the fields read from it (`encodeWord_fieldBits`), and a frame is that of the
command and parameter read from it. -/
theorem decodedInstructionEncodesBack : Obligations.DecodedInstructionEncodesBack := by
  constructor
  · intro p t w i h
    obtain ⟨op, hvis, hmatch, hunused, rfl⟩ := decodeWord_eq_instr h
    have hlen : ((opsel p op).fields.map fun f => (fieldBits w f : Int)).length = (opsel p op).fields.length :=
      List.length_map _
    refine ⟨?_, ?_, ?_⟩
    · rw [wellFormed_instrOfOp hlen, argsFit_fieldBits]
    · rw [instrTiers_instrOfOp, hvis]
    · rw [encode_instrOfOp hlen, encodeWord_fieldBits hmatch hunused]
  · intro p t f i h
    obtain ⟨c, hcode, hvis, rfl⟩ := decodeFrame_eq_instr h
    obtain ⟨hitem, hargs⟩ := item_instrOfHost c f.param.toNat
    have hbyte : ((f.param.toNat : Int)) < 2 ^ 8 := by exact_mod_cast f.param.isLt
    refine ⟨?_, ?_, ?_⟩
    · simp only [Instr.wellFormed, hitem, hargs]
      simpa [fits, nonNegative, belowWidth] using hbyte
    · simp only [instrTiers, hitem, hvis]
    · simp only [encode, hitem, hargs, encodeFrame, hcode]
      exact congrArg (fun b => Packet.frame ⟨f.command, b⟩) (ofNat_field_toNat f.param)

theorem wordOfBytes_extract (w : Word) :
    wordOfBytes (w.extractLsb' 0 8) (w.extractLsb' 8 8) (w.extractLsb' 16 8) (w.extractLsb' 24 8) = w := by
  have happend (start len : Nat) :
      w.extractLsb' (start + 8) len ++ w.extractLsb' start 8 = w.extractLsb' start (len + 8) :=
    BitVec.extractLsb'_append_extractLsb'_eq_extractLsb' rfl
  rw [wordOfBytes, happend 16 8, happend 8 16, happend 0 24]
  exact BitVec.extractLsb'_eq_self

/-- The bytes of a word are read as the word (20_memory.md R45). -/
theorem decodeBytes_wordBytes (p : Params) (t : Tier) (w : Word) (rest : List Byte) :
    decodeBytes p t .displayList (wordBytes w ++ rest) = (decodeWord p t w, rest) := by
  simp only [wordBytes, List.cons_append, List.nil_append, decodeBytes, wordOfBytes_extract]

theorem decodeBytes_packetBytes (p : Params) (t : Tier) (k : Packet) (rest : List Byte) :
    decodeBytes p t (packetChannel k) (packetBytes k ++ rest) = (decodePacket p t k, rest) := by
  cases k with
  | word w => exact decodeBytes_wordBytes p t w rest
  | frame f => rfl

/-- A visible well-formed display-list instruction is read back from its word (30_encoding.md R72). -/
theorem decodePacket_encode_of_dl {p : Params} {t : Tier} {i : Instr} {op : DlOp} (hitem : i.item = .dl op)
    (hwf : i.wellFormed p = true) (hvis : tierVisible (instrTiers p i) t = true) :
    decodePacket p t (encode p i) = .instr i := by
  obtain ⟨_, hback⟩ := Instr.args_of_dl p hitem
  simp only [Instr.wellFormed, hitem] at hwf
  simp only [instrTiers, hitem] at hvis
  simp only [encode, hitem, decodePacket]
  rw [decodeWord_encodeWord_of_argsFit hvis hwf, hback]

/-- A visible well-formed host instruction is read back from its frame, CORERST as RST_PULSE
(44_host_commands.md R240). -/
theorem decodePacket_encode_of_host {p : Params} {t : Tier} {i : Instr} {c : HostCmd} {v : Int}
    (hi : i = instrOfHost c v) (hwf : i.wellFormed p = true) (hvis : tierVisible (instrTiers p i) t = true) :
    decodePacket p t (encode p i) = .instr (instrOfHost (if c = .corerst then .rstPulse else c) v) := by
  subst hi
  obtain ⟨hitem, hargs⟩ := item_instrOfHost c v
  simp only [Instr.wellFormed, hitem, hargs, List.all_cons, List.all_nil, Bool.and_true, fits, nonNegative, belowWidth,
    Bool.and_eq_true, decide_eq_true_eq] at hwf
  simp only [instrTiers, hitem] at hvis
  have hres : (field v 8 : Int) = v := field_of_fits hwf.1 hwf.2
  have hbyte : (BitVec.ofNat 8 (field v 8)).toNat = field v 8 := Nat.mod_eq_of_lt (field_lt v 8)
  simp only [encode, hitem, hargs, encodeFrame, decodePacket, decodeFrame, hostRowAt_code hvis, List.getD_cons_zero,
    hbyte, hres]

/-- Settles O31: the bytes of a packet decode as the packet does (`decodeBytes_packetBytes`), and that is the
instruction again, or RST_PULSE for CORERST. -/
theorem encodedBytesDecodeBack : Obligations.EncodedBytesDecodeBack := by
  intro p t i rest hwf hvis
  rw [decodeBytes_packetBytes]
  cases hitem : i.item with
  | dl op =>
    rw [decodePacket_encode_of_dl hitem hwf hvis]
    refine ⟨fun _ => rfl, ?_⟩
    rintro v rfl
    cases hitem
  | host c =>
    obtain ⟨_, hback⟩ := Instr.args_of_host hitem
    rw [decodePacket_encode_of_host hback.symm hwf hvis]
    constructor
    · intro hne
      have hc : c ≠ .corerst := by
        rintro rfl
        exact hne _ hback.symm
      rw [if_neg hc, hback]
    · rintro v rfl
      cases hitem
      rfl

/-- The words that are read are those a visible row packs (30_encoding.md R70). -/
theorem exists_decodeWord_iff (p : Params) (t : Tier) (w : Word) :
    (∃ i, decodeWord p t w = .instr i) ↔ ∃ op args, tierVisible (opsel p op).tiers t = true ∧
      args.length = (opsel p op).fields.length ∧ encodeWord p op args = w := by
  constructor
  · rintro ⟨i, h⟩
    obtain ⟨op, hvis, hmatch, hunused, -⟩ := decodeWord_eq_instr h
    exact ⟨op, _, hvis, List.length_map _, encodeWord_fieldBits hmatch hunused⟩
  · rintro ⟨op, args, hvis, hlen, rfl⟩
    exact ⟨_, decodeWord_encodeWord hlen hvis⟩

theorem not_exists_instr_iff (d : Decoded) : (¬ ∃ i, d = .instr i) ↔ ∃ reason, d = .notEncoderOutput reason := by
  cases d <;> simp

/-- The first two classes of R70 are the words without a row. -/
theorem wordRow_eq_none_iff_extract (p : Params) (t : Tier) (w : Word) :
    wordRow p t w = none ↔ w.extractLsb' 30 2 = 0b11#2 ∨
      (w.extractLsb' 30 2 = 0b00#2 ∧ (if t = .t2 then 0x2E#8 else 0x30#8) ≤ w.extractLsb' 24 8) := by
  have hw := w.isLt
  have hdiv : w.toNat / 2 ^ 24 < 2 ^ 8 := by omega
  have htop (b : BitVec 2) : w.extractLsb' 30 2 = b ↔ w.toNat / 2 ^ 30 = b.toNat := by
    rw [BitVec.toNat_inj.symm, BitVec.extractLsb'_toNat, Nat.shiftRight_eq_div_pow, Nat.mod_eq_of_lt (by omega)]
  have hopcode (b : BitVec 8) : b ≤ w.extractLsb' 24 8 ↔ b.toNat ≤ w.toNat / 2 ^ 24 := by
    rw [BitVec.le_def, BitVec.extractLsb'_toNat, Nat.shiftRight_eq_div_pow, Nat.mod_eq_of_lt hdiv]
  have hbound : (if t = .t2 then 0x2E#8 else 0x30#8).toNat = firstReservedOpcode t := by
    cases t <;> rfl
  rw [wordRow_eq_none_iff, htop, htop, hopcode, hbound]
  rfl

/-- The reserved words are those the decoder refuses (30_encoding.md R70, R71). -/
theorem reservedWord_iff (p : Params) (t : Tier) (w : Word) :
    ReservedWord p t w ↔ ∃ reason, decodeWord p t w = .notEncoderOutput reason := by
  rw [ReservedWord, ← or_assoc, ← wordRow_eq_none_iff_extract p t w]
  constructor
  · rintro (hrow | ⟨op, hvis, hmatch, hunused⟩)
    · exact decodeWord_of_no_wordRow hrow
    · exact ⟨_, (decodeWord_of_rowMatches hvis hmatch).trans (decodeRow_of_unused_nonzero hunused)⟩
  · rintro ⟨reason, h⟩
    cases hrow : wordRow p t w with
    | none => exact .inl rfl
    | some op =>
      obtain ⟨hvis, hmatch⟩ := (wordRow_eq_some_iff p t w op).mp hrow
      refine .inr ⟨op, hvis, hmatch, fun hunused => ?_⟩
      cases h.symm.trans ((decodeWord_of_wordRow hrow).trans (decodeRow_of_unused_zero hunused))

end Sys2Proof
end

section
/-! O18, O33, O48: the word a display-list instruction drives, and what it never drives (30_encoding.md R65, R70, R78). -/

namespace Sys2Proof.Machine

open Sys2Proof.Safety

/-- On a configured block an instruction drives the answer of its row on the encoder port and changes nothing else. -/
theorem exec_of_dl_of_configured {s : State} {i : Instr} {op : DlOp} (hitem : i.item = .dl op)
    (hconf : s.configured = true) :
    exec i s = .next { s with encOut := some (wordResponse s.params s.tier true op i.args) } := by
  have hanswer : wordResponse s.params s.tier s.configured op i.args = wordResponse s.params s.tier true op i.args := by
    rw [hconf]
  rw [exec_of_dl hitem, wordRequest, hanswer, State.driveEnc]

/-- The encoder answers the word where every check of R304 passes. -/
theorem wordResponse_of_checks_passed {p : Params} {t : Tier} {op : DlOp} {args : List Int}
    (hgk : (opsel p op).src = .gk → p.gkTableEnabled = true) (hvis : tierVisible (opsel p op).tiers t = true)
    (hlen : args.length = (opsel p op).fields.length)
    (hrange : p.strictRange = true → firstOutOfRange args (opsel p op).fields = none) :
    wordResponse p t true op args = .ok (encodeWord p op args) := by
  have hlisted : ¬ (p.gkTableEnabled = false ∧ (opsel p op).src = .gk) := fun ⟨hoff, hsrc⟩ =>
    absurd (hoff.symm.trans (hgk hsrc)) (by decide)
  have hfirst : (if p.strictRange then firstOutOfRange args (opsel p op).fields else none) = none := by
    split
    · next hstrict => exact hrange hstrict
    · rfl
  rw [wordResponse, if_neg (by decide), if_neg hlisted, if_neg (by rw [hvis]; decide), if_neg (not_not.mpr hlen), hfirst]

/-- Settles O18: an instruction asks its row with as many operands as fields, so each check passes. -/
theorem visibleInstructionsDriveTheirWord : Obligations.VisibleInstructionsDriveTheirWord := by
  intro s i op hitem hconf hgk hvis hrange
  obtain ⟨hlen, _⟩ := Instr.args_of_dl s.params hitem
  have hword := wordResponse_of_checks_passed hgk hvis hlen fun hstrict =>
    (firstOutOfRange_eq_none hlen).mpr (hrange hstrict)
  rw [exec_of_dl_of_configured hitem hconf, hword]

/-- The word of a visible row is one the decoder reads at the tier (30_encoding.md R70). -/
theorem isEncoderOutput_encodeWord {p : Params} {t : Tier} {op : DlOp} {args : List Int}
    (hvis : tierVisible (opsel p op).tiers t = true) (hlen : args.length = (opsel p op).fields.length) :
    IsEncoderOutput p t (encodeWord p op args) :=
  ⟨_, decodeWord_encodeWord hlen hvis⟩

/-- Settles O33: reserved words are the refused ones (`reservedWord_iff`), the packed ones those that are read
(`exists_decodeWord_iff`), and a word on the port is one that is read. -/
theorem reservedWordsAreNeverEmitted : Obligations.ReservedWordsAreNeverEmitted := by
  refine ⟨fun p t w => ⟨?_, reservedWord_iff p t w⟩, ?_⟩
  · rw [reservedWord_iff, ← exists_decodeWord_iff, not_exists_instr_iff]
  · intro s t i op w hitem hexec hout
    rw [exec_of_dl hitem] at hexec
    obtain rfl := Host.Outcome.next.inj hexec
    rw [State.driveEnc_encOut] at hout
    obtain ⟨_, hvis, hlen, rfl⟩ := wordResponse_eq_ok (Option.some.inj hout)
    rw [reservedWord_iff, ← not_exists_instr_iff, not_not]
    exact isEncoderOutput_encodeWord hvis hlen

/-- The rows that the source gives (30_encoding.md R78). -/
def sourceRows : List DlOp :=
  [.beginPrim, .endPrim, .colorRgb, .pointSize, .bitmapLayout, .vertex2f]

theorem opsel_src (p : Params) (op : DlOp) : (opsel p op).src = if op ∈ sourceRows then .doc else .gk := by
  cases op <;> rfl

theorem opsel_gkTableEnabled (p : Params) (b : Bool) (op : DlOp) :
    opsel { p with gkTableEnabled := b } op = opsel p op := by
  cases op <;> rfl

/-- The answer on a row of the source does not depend on GK_TABLE_ENABLED. -/
theorem wordResponse_of_doc {p : Params} {op : DlOp} (hsrc : (opsel p op).src = .doc) (b : Bool) (t : Tier) (c : Bool)
    (args : List Int) :
    wordResponse { p with gkTableEnabled := b } t c op args = wordResponse p t c op args := by
  simp only [wordResponse, encodeWord, opsel_gkTableEnabled, hsrc, reduceCtorEq, and_false, if_false]

/-- Settles O48: the six are the rows whose answer does not depend on the table; every other row is one of it. -/
theorem onlySixRowsWithoutGeneralKnowledge : Obligations.OnlySixRowsWithoutGeneralKnowledge := by
  intro s i op hitem hconf hoff
  rw [exec_of_dl_of_configured hitem hconf]
  constructor
  · intro hmem
    have hsrc := (opsel_src s.params op).trans (if_pos hmem)
    exact congrArg (fun r => Host.Outcome.next { s with encOut := some r })
      (wordResponse_of_doc hsrc true s.tier true i.args).symm
  · intro hmem
    have hsrc := (opsel_src s.params op).trans (if_neg hmem)
    rw [wordResponse, if_neg (by decide), if_pos ⟨hoff, hsrc⟩]

end Sys2Proof.Machine
end

section
/-! O44, O28, O29: every step completes, a fetched word runs next, and some words written out. -/

namespace Sys2Proof.Machine

open Sys2Proof.Safety

theorem stepCompletes (s : State) : StepCompletes s := by
  rcases step_cases s with ⟨_, hstep⟩ | ⟨_, _, _, hstep⟩ <;> exact ⟨_, hstep⟩

/-- Settles O44: by induction on the number of steps. -/
theorem noRequestStopsTheBlock : Obligations.NoRequestStopsTheBlock := by
  refine ⟨stepCompletes, fun k => ?_⟩
  induction k with
  | zero => exact fun s => ⟨s, rfl⟩
  | succ k ih =>
    intro s
    obtain ⟨u, hsu⟩ := stepCompletes s
    obtain ⟨t, hut⟩ := ih u
    exact ⟨t, (run_succ_of_step k hsu).trans hut⟩

/-- A placed word that reads as an instruction is that instruction's request, first in the queue (log entry 11). -/
theorem withFetchWord_requests {s : State} {nbits w : Nat} {i : Instr} (h : decodeTableWord nbits w = some i) :
    (s.withFetchWord nbits w).requests = requestOf (s.withFetchWord nbits w).params i :: s.requests := by
  unfold State.withFetchWord
  rw [h]
  cases s.configured <;> rfl

/-- Settles O28: the step runs the instruction that the first request names (`stepRunsTheNamedInstruction`). -/
theorem fetchedTableWordRunsNext : Obligations.FetchedTableWordRunsNext :=
  fun s _ _ i h => stepRunsTheNamedInstruction _ i s.requests (withFetchWord_requests h)

/-- Settles O29: each decoding is evaluated. -/
theorem specEncodingsDecode : Obligations.SpecEncodingsDecode := by
  refine ⟨?_, ?_, ?_, ?_, ?_, ?_, ?_, ?_, ?_⟩ <;> decide

end Sys2Proof.Machine
end

section
/-! O24: what a step leaves on the ports (30_encoding.md R70, 60_exceptions.md R301, R302). -/

namespace Sys2Proof.Machine

open Sys2Proof.Safety

/-- What may stand on a port: a value with `IsOutput`, or an error with one of the codes, from a configured block. -/
structure ResponseSound {α : Type} (p : Params) (configured : Bool) (codes : List Nat) (IsOutput : α → Prop)
    (r : Response α) : Prop where
  value : ∀ v, r = .ok v → configured = true ∧ IsOutput v
  error : ∀ e, r = .err e → configured = true ∧ CodeAllowed p codes e

section Responses

variable {α : Type} {p : Params} {c : Bool} {codes : List Nat} {IsOutput : α → Prop}

theorem responseSound_refused (reason : RefusalReason) : ResponseSound p c codes IsOutput (.refused reason) :=
  ⟨nofun, nofun⟩

theorem responseSound_ok {v : α} (hc : c = true) (hv : IsOutput v) : ResponseSound p c codes IsOutput (.ok v) :=
  ⟨fun _ h => by cases h; exact ⟨hc, hv⟩, nofun⟩

theorem responseSound_err {e : ErrorInfo} (hc : c = true) (he : CodeAllowed p codes e) :
    ResponseSound p c codes IsOutput (.err e) :=
  ⟨nofun, fun _ h => by cases h; exact ⟨hc, he⟩⟩

/-- An error of another code than 5 needs no STRICT_RANGE (60_exceptions.md R301). -/
theorem codeAllowed_mismatch (kind : MismatchKind) (item : Item) (tier tmin : Nat) (tmax : Option Nat)
    (h : errorCode (.generationMismatch kind item tier tmin tmax) ∈ codes) :
    CodeAllowed p codes (.generationMismatch kind item tier tmin tmax) :=
  ⟨h, fun h5 => by cases kind <;> cases h5⟩

end Responses

theorem wordResponse_sound (p : Params) (t : Tier) (c : Bool) (op : DlOp) (args : List Int) :
    ResponseSound p c [1, 5] (IsEncoderOutput p t) (wordResponse p t c op args) := by
  rcases wordResponse_cases p t c op args with ⟨_, h⟩ | ⟨_, _, _, h⟩ | ⟨hc, _, _, h⟩ | ⟨_, _, _, _, h⟩ |
    ⟨f, v, hc, _, _, _, hstrict, _, h⟩ | ⟨hc, _, hvis, hlen, _, h⟩ <;> rw [h]
  · exact responseSound_refused _
  · exact responseSound_refused _
  · exact responseSound_err hc (codeAllowed_mismatch _ _ _ _ _ List.mem_cons_self)
  · exact responseSound_refused _
  · exact responseSound_err hc ⟨by simp [errorCode], fun _ => hstrict⟩
  · exact responseSound_ok hc (isEncoderOutput_encodeWord hvis hlen)

theorem encAnswer_sound (p : Params) (t : Tier) (c : Bool) (m : String) (v : Option Variant) (args : List Operand) :
    ResponseSound p c [1, 5] (IsEncoderOutput p t) (encAnswer p t c m v args) := by
  rcases encAnswer_cases p t c m v args with ⟨_, h⟩ | ⟨_, _, h⟩ | ⟨_, _, h⟩ | ⟨vs, op, _, _, _, h⟩ <;> rw [h]
  · exact responseSound_refused _
  · exact responseSound_refused _
  · exact responseSound_refused _
  · exact wordResponse_sound p t c op vs

/-- The frame of a visible command is one that is read (44_host_commands.md R232). -/
theorem isFramerOutput_encodeFrame {t : Tier} {cmd : HostCmd} (hvis : tierVisible (hostRow cmd).tiers t = true)
    (v : Int) : IsFramerOutput t (encodeFrame cmd v) := by
  simp only [IsFramerOutput, decodeFrame, encodeFrame, hostRowAt_code hvis]
  exact ⟨_, rfl⟩

theorem frameResponse_sound (p : Params) (t : Tier) (c : Bool) (cmd : HostCmd) (v : Int) :
    ResponseSound p c [2, 5] (IsFramerOutput t) (frameResponse p t c cmd v) := by
  rcases frameResponse_cases p t c cmd v with ⟨_, h⟩ | ⟨hc, _, h⟩ | ⟨_, _, _, h⟩ | ⟨hc, _, _, hstrict, _, h⟩ |
    ⟨hc, hvis, _, _, h⟩ <;> rw [h]
  · exact responseSound_refused _
  · exact responseSound_err hc (codeAllowed_mismatch _ _ _ _ _ List.mem_cons_self)
  · exact responseSound_refused _
  · exact responseSound_err hc ⟨by simp [errorCode], fun _ => hstrict⟩
  · exact responseSound_ok hc (isFramerOutput_encodeFrame hvis v)

theorem hostAnswer_sound (p : Params) (t : Tier) (c : Bool) (cmd : String) (param : Option Operand) :
    ResponseSound p c [2, 5] (IsFramerOutput t) (hostAnswer p t c cmd param) := by
  rcases hostAnswer_cases p t c cmd param with ⟨_, h⟩ | ⟨_, _, h⟩ | ⟨_, _, h⟩ | ⟨v, row, _, _, _, h⟩ <;> rw [h]
  · exact responseSound_refused _
  · exact responseSound_refused _
  · exact responseSound_refused _
  · exact frameResponse_sound p t c row v

/-- The value of a visible name is one the map gives (45_register_address_map.md R261). -/
theorem isMapOutput_entry {t : Tier} {name : String} {e : MapEntry} (he : mapEntryNamed name = some e)
    (hvis : tierVisible e.tiers t = true) : IsMapOutput t e.value := by
  cases hv : e.value with
  | region _ => trivial
  | address _ => exact ⟨name, e, he, hv, hvis⟩
  | constant _ => exact ⟨name, e, he, hv, hvis⟩

theorem mapAnswer_sound (p : Params) (t : Tier) (c : Bool) (name : String) :
    ResponseSound p c [3, 4] (IsMapOutput t) (mapAnswer p t c name) := by
  rcases mapAnswer_cases p t c name with ⟨_, h⟩ | ⟨_, _, h⟩ | ⟨_, _, _, _, _, h⟩ | ⟨e, hc, _, _, _, h⟩ |
    ⟨e, hc, he, _, hvis, h⟩ <;> rw [h]
  · exact responseSound_refused _
  · exact responseSound_refused _
  · exact responseSound_refused _
  · exact responseSound_err hc (codeAllowed_mismatch _ _ _ _ _ (by cases e.kind <;> simp [mismatchKind, errorCode]))
  · exact responseSound_ok hc (isMapOutput_entry he hvis)

theorem regionAnswer_sound (p : Params) (t : Tier) (c : Bool) (addr : Operand) :
    ResponseSound p c [3, 4] (IsMapOutput t) (regionAnswer p c addr) := by
  rcases regionAnswer_cases p c addr with ⟨_, h⟩ | ⟨_, _, h⟩ | ⟨_, _, _, _, h⟩ | ⟨a, hc, _, _, h⟩ <;> rw [h]
  · exact responseSound_refused _
  · exact responseSound_refused _
  · exact responseSound_refused _
  · exact responseSound_ok hc trivial

theorem rstAnswer_ne_err (t : Tier) (c : Bool) (o : Operand) (e : ErrorInfo) : rstAnswer t c o ≠ .err e := by
  unfold rstAnswer
  split
  · nofun
  · split <;> split <;> nofun

theorem writeTierAnswer_ne_err (c : Bool) (o : Operand) (e : ErrorInfo) : writeTierAnswer c o ≠ .err e := by
  unfold writeTierAnswer
  split
  · nofun
  · split <;> nofun

/-- The reset event leaves the other ports (70_reset_and_hazards.md R330). -/
theorem State.rst_otherPorts (s : State) (o : Operand) :
    (s.rst o).encOut = s.encOut ∧ (s.rst o).hostOut = s.hostOut ∧ (s.rst o).mapOut = s.mapOut := by
  rcases s.rst_cases o with ⟨_, h⟩ | ⟨_, _, _, _, _, _, h⟩ | ⟨_, _, _, _, _, h⟩ | ⟨_, _, _, _, h⟩ | ⟨_, _, _, _, h⟩ <;>
    rw [h] <;> exact ⟨rfl, rfl, rfl⟩

end Sys2Proof.Machine

namespace Sys2Proof.Safety

open Sys2Proof.Machine

section Ports

variable {s t : State}

/-- What a port holds stays sound where it stays and TIER is kept: a block that is not configured has neither value
nor error on a port (10_state.md R21). -/
theorem PortsSound.of_tierKept (h : PortsSound s) (hkept : TierKept s t) (henc : t.encOut = s.encOut)
    (hhost : t.hostOut = s.hostOut) (hmap : t.mapOut = s.mapOut) (hcfg : t.cfgOut = s.cfgOut) : PortsSound t := by
  obtain ⟨hparams, hkeep⟩ := hkept
  have hcarry (Q : Params → Tier → Prop) (hs : s.configured = true ∧ Q s.params s.tier) :
      t.configured = true ∧ Q t.params t.tier := by
    obtain ⟨hconf, htier⟩ := hkeep hs.1
    rw [hparams, htier]
    exact ⟨hconf, hs.2⟩
  constructor
  · exact fun w hw => hcarry (fun p u => IsEncoderOutput p u w) (h.encWord w (henc ▸ hw))
  · exact fun e he => hcarry (fun p _ => CodeAllowed p _ e) (h.encErr e (henc ▸ he))
  · exact fun f hf => hcarry (fun _ u => IsFramerOutput u f) (h.hostFrame f (hhost ▸ hf))
  · exact fun e he => hcarry (fun p _ => CodeAllowed p _ e) (h.hostErr e (hhost ▸ he))
  · exact fun v hv => hcarry (fun _ u => IsMapOutput u v) (h.mapValue v (hmap ▸ hv))
  · exact fun e he => hcarry (fun p _ => CodeAllowed p _ e) (h.mapErr e (hmap ▸ he))
  · exact fun e => hcfg ▸ h.cfgErr e

theorem PortsSound.driveEnc (h : PortsSound s) {r : Response Word}
    (hr : ResponseSound s.params s.configured [1, 5] (IsEncoderOutput s.params s.tier) r) :
    PortsSound (s.driveEnc r) :=
  { h with
    encWord := fun w hw => hr.value w (Option.some.inj hw)
    encErr := fun e he => hr.error e (Option.some.inj he) }

theorem PortsSound.driveHost (h : PortsSound s) {r : Response Frame}
    (hr : ResponseSound s.params s.configured [2, 5] (IsFramerOutput s.tier) r) : PortsSound (s.driveHost r) :=
  { h with
    hostFrame := fun f hf => hr.value f (Option.some.inj hf)
    hostErr := fun e he => hr.error e (Option.some.inj he) }

theorem PortsSound.driveMap (h : PortsSound s) {r : Response MapValue}
    (hr : ResponseSound s.params s.configured [3, 4] (IsMapOutput s.tier) r) : PortsSound (s.driveMap r) :=
  { h with
    mapValue := fun v hv => hr.value v (Option.some.inj hv)
    mapErr := fun e he => hr.error e (Option.some.inj he) }

theorem PortsSound.driveCfg (h : PortsSound s) {r : Response Unit} (hr : ∀ e, r ≠ .err e) :
    PortsSound (s.driveCfg r) :=
  { h with cfgErr := fun e he => hr e (Option.some.inj he) }

theorem PortsSound.rst (h : PortsSound s) (o : Operand) : PortsSound (s.rst o) := by
  obtain ⟨henc, hhost, hmap⟩ := s.rst_otherPorts o
  have hanswer : ∀ e, rstAnswer s.tier s.configured o ≠ .err e := rstAnswer_ne_err _ _ o
  exact (h.driveCfg hanswer).of_tierKept (serve_tierKept s (.rst o)) henc hhost hmap (s.rst_cfgOut o)

/-- Serving a request drives a sound answer on its port. -/
theorem PortsSound.serve (h : PortsSound s) (r : Request) : PortsSound (s.serve r) := by
  cases r with
  | enc m v args => exact h.driveEnc (encAnswer_sound _ _ _ m v args)
  | host cmd param => exact h.driveHost (hostAnswer_sound _ _ _ cmd param)
  | map name => exact h.driveMap (mapAnswer_sound _ _ _ name)
  | region addr => exact h.driveMap (regionAnswer_sound _ _ _ addr)
  | rst o => exact h.rst o
  | writeTier o => exact h.driveCfg (writeTierAnswer_ne_err _ o)

end Ports

/-- Settles O24: a step idles, or serves a request on a state with the same ports (`PortsSound.serve`). -/
theorem portsHoldOnlyAllowedResponses : Obligations.PortsHoldOnlyAllowedResponses := by
  intro s t h hstep
  cases hq : s.requests with
  | nil =>
    obtain rfl : s = t := Host.Outcome.next.inj ((step_of_requests_nil hq).symm.trans hstep)
    exact h
  | cons r rest =>
    obtain rfl := eq_serve_of_step hq hstep
    have hrest : PortsSound { s with requests := rest } := { h with }
    exact hrest.serve r

end Sys2Proof.Safety
end

section
/-! A packed word read from the high bits down: the header, then each field, one bit vector appended to the next
(00_scope.md R10, 30_encoding.md R61, R62, R65). -/

namespace Sys2Proof

/-- The word whose bits from `k` up are those of `h`, the bits below being 0. -/
def aboveBits {m : Nat} (h : BitVec m) (k : Nat) : Word :=
  h.setWidth 32 <<< k

theorem getLsbD_aboveBits {m : Nat} (h : BitVec m) (k : Nat) {i : Nat} (hi : i < 32) :
    (aboveBits h k).getLsbD i = (decide (k ≤ i) && h.getLsbD (i - k)) := by
  have hsub : i - k < 32 := by omega
  rw [aboveBits, BitVec.getLsbD_shiftLeft, BitVec.getLsbD_setWidth]
  by_cases hlow : k ≤ i
  · simp [hi, hsub, hlow, Nat.not_lt.mpr hlow]
  · simp [hlow, Nat.lt_of_not_le hlow]

/-- A bit of a placed operand is a bit of its two's-complement word (R9, R10). -/
theorem getLsbD_placed_eq_ofInt (v : Int) (f : FieldDesc) {i : Nat} (hi : i < 32) :
    (placed v f).getLsbD i = (decide (f.offset ≤ i) && (BitVec.ofInt f.width v).getLsbD (i - f.offset)) := by
  rw [getLsbD_placed v f i hi, ← BitVec.testBit_toNat, toNat_ofInt_eq_field]

/-- A field placed right below the bits written so far appends its operand to them (R10). -/
theorem aboveBits_or_placed {m top : Nat} (h : BitVec m) (v : Int) {f : FieldDesc} (htop : f.offset + f.width = top) :
    aboveBits h top ||| placed v f = aboveBits (h ++ BitVec.ofInt f.width v) f.offset := by
  apply BitVec.eq_of_getLsbD_eq
  intro i hi
  rw [BitVec.getLsbD_or, getLsbD_aboveBits _ _ hi, getLsbD_aboveBits _ _ hi, getLsbD_placed_eq_ofInt v f hi,
    BitVec.getLsbD_append]
  by_cases hlow : f.offset ≤ i
  · by_cases hin : i - f.offset < f.width
    · have habove : ¬ top ≤ i := by omega
      simp [hlow, hin, habove]
    · have habove : top ≤ i := by omega
      have hindex : i - f.offset - f.width = i - top := by omega
      simp [hlow, hin, habove, hindex, BitVec.getLsbD_of_ge _ _ (Nat.not_lt.mp hin)]
  · have habove : ¬ top ≤ i := by omega
    simp [hlow, habove]

/-- Unused bits right below the bits written so far append zeros to them (30_encoding.md R67). -/
theorem aboveBits_append_zero {m n k top : Nat} (h : BitVec m) (htop : k + n = top) :
    aboveBits h top = aboveBits (h ++ 0#n) k := by
  apply BitVec.eq_of_getLsbD_eq
  intro i hi
  rw [getLsbD_aboveBits _ _ hi, getLsbD_aboveBits _ _ hi, BitVec.getLsbD_append, BitVec.getLsbD_zero]
  by_cases hin : i - k < n
  · have habove : ¬ top ≤ i := by omega
    simp [hin, habove]
  · have hiff : top ≤ i ↔ k ≤ i := by omega
    have hindex : i - k - n = i - top := by omega
    simp [hin, hiff, hindex]

section Layout

variable {m top : Nat} {h : BitVec m} {l : List (Int × FieldDesc)} {w : Word}

theorem pack_of_fieldBelow {v : Int} {f : FieldDesc} (htop : f.offset + f.width = top)
    (hrest : pack (aboveBits (h ++ BitVec.ofInt f.width v) f.offset) l = w) :
    pack (aboveBits h top) ((v, f) :: l) = w := by
  rw [pack, aboveBits_or_placed h v htop, hrest]

theorem pack_of_zerosBelow {k : Nat} (n : Nat) (htop : k + n = top) (hrest : pack (aboveBits (h ++ 0#n) k) l = w) :
    pack (aboveBits h top) l = w := by
  rw [aboveBits_append_zero h htop, hrest]

theorem pack_of_allWritten : pack (aboveBits w 0) [] = w := by
  rw [pack, aboveBits, BitVec.setWidth_eq, BitVec.shiftLeft_zero]

/-- A row's word is written from its header down (R65). -/
theorem encodeWord_of_header {p : Params} {op : DlOp} {args : List Int} (h : BitVec m)
    (hheader : matchWord (opsel p op) = aboveBits h top)
    (hpack : pack (aboveBits h top) (args.zip (opsel p op).fields) = w) : encodeWord p op args = w := by
  rw [encodeWord, hheader, hpack]

end Layout

end Sys2Proof
end

section
/-! The response of a row in the terms of a rule of 40_dl_primitives.md to 43_dl_flow.md (30_encoding.md R65,
60_exceptions.md R304). -/

namespace Sys2Proof.Machine

open Sys2Proof.Safety

/-- The operand of a field, with the bounds that a rule gives it (30_encoding.md R77). -/
def fieldOperand (v : Int) (f : FieldDesc) : RuleOperand :=
  if f.signed then signedOperand f.name f.width v else unsignedOperand f.name f.width v

@[simp] theorem fieldOperand_name (v : Int) (f : FieldDesc) : (fieldOperand v f).name = f.name := by
  unfold fieldOperand
  split <;> rfl

@[simp] theorem fieldOperand_value (v : Int) (f : FieldDesc) : (fieldOperand v f).value = v := by
  unfold fieldOperand
  split <;> rfl

/-- The bounds of a rule are those of the strict range test (R77). -/
theorem outside_fieldOperand (v : Int) (f : FieldDesc) : (fieldOperand v f).outside = !inRange v f := by
  rw [Bool.eq_iff_iff, Bool.not_eq_true', ← Bool.not_eq_true, inRange_iff]
  cases hsigned : f.signed <;>
    simp [fieldOperand, hsigned, RuleOperand.outside, signedOperand, unsignedOperand] <;> omega

/-- The first operand outside its bounds is the first out of range (R304). -/
theorem find?_outside_fieldOperand (args : List Int) (fs : List FieldDesc) :
    (List.zipWith fieldOperand args fs).find? RuleOperand.outside =
      (firstOutOfRange args fs).map fun q => fieldOperand q.2 q.1 := by
  induction args generalizing fs with
  | nil => rfl
  | cons v vs ih =>
    cases fs with
    | nil => rfl
    | cons f fs =>
      rw [List.zipWith_cons_cons, List.find?_cons, outside_fieldOperand, firstOutOfRange]
      cases inRange v f with
      | true => exact ih fs
      | false => rfl

/-- The encoder's answer on a row is what a rule with the row's source, tiers and fields gives: the checks stand in
the same order, and the arity check passes. -/
theorem wordResponse_eq_encoderRule (s : State) {op : DlOp} {args : List Int}
    (hlen : args.length = (opsel s.params op).fields.length) :
    wordResponse s.params s.tier s.configured op args =
      encoderRule s (opsel s.params op).src ⟨(opsel s.params op).mnemonic, (opsel s.params op).variant⟩
        (opsel s.params op).tiers (List.zipWith fieldOperand args (opsel s.params op).fields)
        (encodeWord s.params op args) := by
  unfold wordResponse encoderRule
  refine if_congr Iff.rfl rfl (if_congr and_comm rfl (if_congr Iff.rfl rfl ?_))
  rw [if_neg (not_not.mpr hlen), find?_outside_fieldOperand]
  cases s.params.strictRange with
  | false => rfl
  | true =>
    cases firstOutOfRange args (opsel s.params op).fields with
    | none => rfl
    | some q => simp

/-- A display-list instruction drives what the rule of its row gives, and changes nothing else (R65). -/
theorem exec_eq_encoderRule (i : Instr) (op : DlOp) {s : State} {w : Word} (hitem : i.item = .dl op)
    (hword : encodeWord s.params op i.args = w) :
    exec i s = .next { s with encOut := some (encoderRule s (opsel s.params op).src
      ⟨(opsel s.params op).mnemonic, (opsel s.params op).variant⟩ (opsel s.params op).tiers
      (List.zipWith fieldOperand i.args (opsel s.params op).fields) w) } := by
  obtain ⟨hlen, _⟩ := Instr.args_of_dl s.params hitem
  rw [exec_of_dl hitem, wordRequest, wordResponse_eq_encoderRule s hlen, hword, State.driveEnc]

end Sys2Proof.Machine
end

section
/-! O1, O2: the words of 40_dl_primitives.md, bit field by bit field (R101 to R107). -/

namespace Sys2Proof

variable (p : Params)

theorem encodeWord_beginPrim (prim : Int) :
    encodeWord p .beginPrim [prim] = 0x1F#8 ++ 0#20 ++ BitVec.ofInt 4 prim :=
  encodeWord_of_header 0x1F#8 rfl <| pack_of_zerosBelow 20 rfl <| pack_of_fieldBelow rfl pack_of_allWritten

theorem encodeWord_endPrim : encodeWord p .endPrim [] = 0x21#8 ++ 0#24 :=
  encodeWord_of_header 0x21#8 rfl <| pack_of_zerosBelow 24 rfl pack_of_allWritten

theorem encodeWord_vertex2f (x y : Int) :
    encodeWord p .vertex2f [x, y] = 0b01#2 ++ BitVec.ofInt 15 x ++ BitVec.ofInt 15 y :=
  encodeWord_of_header 0b01#2 rfl <| pack_of_fieldBelow rfl <| pack_of_fieldBelow rfl pack_of_allWritten

theorem encodeWord_vertex2ii (x y handle cellIndex : Int) :
    encodeWord p .vertex2ii [x, y, handle, cellIndex] =
      0b10#2 ++ BitVec.ofInt 9 x ++ BitVec.ofInt 9 y ++ BitVec.ofInt 5 handle ++ BitVec.ofInt 7 cellIndex :=
  encodeWord_of_header 0b10#2 rfl <| pack_of_fieldBelow rfl <| pack_of_fieldBelow rfl <| pack_of_fieldBelow rfl <|
    pack_of_fieldBelow rfl pack_of_allWritten

theorem encodeWord_vertexFormat (frac : Int) :
    encodeWord p .vertexFormat [frac] = 0x27#8 ++ 0#21 ++ BitVec.ofInt 3 frac :=
  encodeWord_of_header 0x27#8 rfl <| pack_of_zerosBelow 21 rfl <| pack_of_fieldBelow rfl pack_of_allWritten

theorem encodeWord_vertexTranslateX (x : Int) :
    encodeWord p .vertexTranslateX [x] = 0x2B#8 ++ 0#7 ++ BitVec.ofInt 17 x :=
  encodeWord_of_header 0x2B#8 rfl <| pack_of_zerosBelow 7 rfl <| pack_of_fieldBelow rfl pack_of_allWritten

theorem encodeWord_vertexTranslateY (y : Int) :
    encodeWord p .vertexTranslateY [y] = 0x2C#8 ++ 0#7 ++ BitVec.ofInt 17 y :=
  encodeWord_of_header 0x2C#8 rfl <| pack_of_zerosBelow 7 rfl <| pack_of_fieldBelow rfl pack_of_allWritten

end Sys2Proof

namespace Sys2Proof.Machine

/-- Settles O1: each instruction drives what the rule of its row gives (`exec_eq_encoderRule`); the row has the
source, tiers and operand bounds of the rule, and its word is the one written out. -/
theorem primitiveAndVertexWords : Obligations.PrimitiveAndVertexWords := by
  intro s
  refine ⟨fun prim => ?_, ?_, fun x y => ?_, fun x y handle cellIndex => ?_⟩
  · exact exec_eq_encoderRule (.beginPrim prim) .beginPrim rfl (encodeWord_beginPrim s.params prim)
  · exact exec_eq_encoderRule .endPrim .endPrim rfl (encodeWord_endPrim s.params)
  · exact exec_eq_encoderRule (.vertex2f x y) .vertex2f rfl (encodeWord_vertex2f s.params x y)
  · exact exec_eq_encoderRule (.vertex2ii x y handle cellIndex) .vertex2ii rfl (encodeWord_vertex2ii s.params x y handle cellIndex)

/-- Settles O2: as O1, for the rows of the vertex format and the translations. -/
theorem vertexFormatAndTranslateWords : Obligations.VertexFormatAndTranslateWords := by
  intro s
  refine ⟨fun frac => ?_, fun x => ?_, fun y => ?_⟩
  · exact exec_eq_encoderRule (.vertexFormat frac) .vertexFormat rfl (encodeWord_vertexFormat s.params frac)
  · exact exec_eq_encoderRule (.vertexTranslateX x) .vertexTranslateX rfl (encodeWord_vertexTranslateX s.params x)
  · exact exec_eq_encoderRule (.vertexTranslateY y) .vertexTranslateY rfl (encodeWord_vertexTranslateY s.params y)

end Sys2Proof.Machine
end

section
/-! O3 to O6: the words of 41_dl_graphics_state.md, bit field by bit field (R121 to R138). -/

namespace Sys2Proof

variable (p : Params)

theorem encodeWord_colorRgb (red green blue : Int) :
    encodeWord p .colorRgb [red, green, blue] =
      0x04#8 ++ BitVec.ofInt 8 red ++ BitVec.ofInt 8 green ++ BitVec.ofInt 8 blue :=
  encodeWord_of_header 0x04#8 rfl <| pack_of_fieldBelow rfl <| pack_of_fieldBelow rfl <| pack_of_fieldBelow rfl
    pack_of_allWritten

theorem encodeWord_colorA (alpha : Int) :
    encodeWord p .colorA [alpha] = 0x10#8 ++ 0#16 ++ BitVec.ofInt 8 alpha :=
  encodeWord_of_header 0x10#8 rfl <| pack_of_zerosBelow 16 rfl <| pack_of_fieldBelow rfl pack_of_allWritten

theorem encodeWord_clearColorRgb (red green blue : Int) :
    encodeWord p .clearColorRgb [red, green, blue] =
      0x02#8 ++ BitVec.ofInt 8 red ++ BitVec.ofInt 8 green ++ BitVec.ofInt 8 blue :=
  encodeWord_of_header 0x02#8 rfl <| pack_of_fieldBelow rfl <| pack_of_fieldBelow rfl <| pack_of_fieldBelow rfl
    pack_of_allWritten

theorem encodeWord_clearColorA (alpha : Int) :
    encodeWord p .clearColorA [alpha] = 0x0F#8 ++ 0#16 ++ BitVec.ofInt 8 alpha :=
  encodeWord_of_header 0x0F#8 rfl <| pack_of_zerosBelow 16 rfl <| pack_of_fieldBelow rfl pack_of_allWritten

theorem encodeWord_clearStencil (value : Int) :
    encodeWord p .clearStencil [value] = 0x11#8 ++ 0#16 ++ BitVec.ofInt 8 value :=
  encodeWord_of_header 0x11#8 rfl <| pack_of_zerosBelow 16 rfl <| pack_of_fieldBelow rfl pack_of_allWritten

theorem encodeWord_clearTag (value : Int) :
    encodeWord p .clearTag [value] = 0x12#8 ++ 0#16 ++ BitVec.ofInt 8 value :=
  encodeWord_of_header 0x12#8 rfl <| pack_of_zerosBelow 16 rfl <| pack_of_fieldBelow rfl pack_of_allWritten

theorem encodeWord_tag (value : Int) :
    encodeWord p .tag [value] = 0x03#8 ++ 0#16 ++ BitVec.ofInt 8 value :=
  encodeWord_of_header 0x03#8 rfl <| pack_of_zerosBelow 16 rfl <| pack_of_fieldBelow rfl pack_of_allWritten

theorem encodeWord_tagMask (mask : Int) :
    encodeWord p .tagMask [mask] = 0x14#8 ++ 0#23 ++ BitVec.ofInt 1 mask :=
  encodeWord_of_header 0x14#8 rfl <| pack_of_zerosBelow 23 rfl <| pack_of_fieldBelow rfl pack_of_allWritten

theorem encodeWord_pointSize (size : Int) :
    encodeWord p .pointSize [size] = 0x0D#8 ++ 0#11 ++ BitVec.ofInt 13 size :=
  encodeWord_of_header 0x0D#8 rfl <| pack_of_zerosBelow 11 rfl <| pack_of_fieldBelow rfl pack_of_allWritten

theorem encodeWord_lineWidth (width : Int) :
    encodeWord p .lineWidth [width] = 0x0E#8 ++ 0#12 ++ BitVec.ofInt 12 width :=
  encodeWord_of_header 0x0E#8 rfl <| pack_of_zerosBelow 12 rfl <| pack_of_fieldBelow rfl pack_of_allWritten

theorem encodeWord_alphaFunc (func ref : Int) :
    encodeWord p .alphaFunc [func, ref] = 0x09#8 ++ 0#13 ++ BitVec.ofInt 3 func ++ BitVec.ofInt 8 ref :=
  encodeWord_of_header 0x09#8 rfl <| pack_of_zerosBelow 13 rfl <| pack_of_fieldBelow rfl <| pack_of_fieldBelow rfl
    pack_of_allWritten

theorem encodeWord_stencilFunc (func ref mask : Int) :
    encodeWord p .stencilFunc [func, ref, mask] =
      0x0A#8 ++ 0#4 ++ BitVec.ofInt 4 func ++ BitVec.ofInt 8 ref ++ BitVec.ofInt 8 mask :=
  encodeWord_of_header 0x0A#8 rfl <| pack_of_zerosBelow 4 rfl <| pack_of_fieldBelow rfl <| pack_of_fieldBelow rfl <|
    pack_of_fieldBelow rfl pack_of_allWritten

theorem encodeWord_stencilOp (sfail spass : Int) :
    encodeWord p .stencilOp [sfail, spass] = 0x0C#8 ++ 0#18 ++ BitVec.ofInt 3 sfail ++ BitVec.ofInt 3 spass :=
  encodeWord_of_header 0x0C#8 rfl <| pack_of_zerosBelow 18 rfl <| pack_of_fieldBelow rfl <| pack_of_fieldBelow rfl
    pack_of_allWritten

theorem encodeWord_stencilMask (mask : Int) :
    encodeWord p .stencilMask [mask] = 0x13#8 ++ 0#16 ++ BitVec.ofInt 8 mask :=
  encodeWord_of_header 0x13#8 rfl <| pack_of_zerosBelow 16 rfl <| pack_of_fieldBelow rfl pack_of_allWritten

theorem encodeWord_blendFunc (src dst : Int) :
    encodeWord p .blendFunc [src, dst] = 0x0B#8 ++ 0#18 ++ BitVec.ofInt 3 src ++ BitVec.ofInt 3 dst :=
  encodeWord_of_header 0x0B#8 rfl <| pack_of_zerosBelow 18 rfl <| pack_of_fieldBelow rfl <| pack_of_fieldBelow rfl
    pack_of_allWritten

theorem encodeWord_colorMask (r g b a : Int) :
    encodeWord p .colorMask [r, g, b, a] =
      0x20#8 ++ 0#20 ++ BitVec.ofInt 1 r ++ BitVec.ofInt 1 g ++ BitVec.ofInt 1 b ++ BitVec.ofInt 1 a :=
  encodeWord_of_header 0x20#8 rfl <| pack_of_zerosBelow 20 rfl <| pack_of_fieldBelow rfl <| pack_of_fieldBelow rfl <|
    pack_of_fieldBelow rfl <| pack_of_fieldBelow rfl pack_of_allWritten

theorem encodeWord_scissorXy (x y : Int) :
    encodeWord p .scissorXy [x, y] = 0x1B#8 ++ 0#2 ++ BitVec.ofInt 11 x ++ BitVec.ofInt 11 y :=
  encodeWord_of_header 0x1B#8 rfl <| pack_of_zerosBelow 2 rfl <| pack_of_fieldBelow rfl <| pack_of_fieldBelow rfl
    pack_of_allWritten

theorem encodeWord_scissorSize (width height : Int) :
    encodeWord p .scissorSize [width, height] = 0x1C#8 ++ BitVec.ofInt 12 width ++ BitVec.ofInt 12 height :=
  encodeWord_of_header 0x1C#8 rfl <| pack_of_fieldBelow rfl <| pack_of_fieldBelow rfl pack_of_allWritten

end Sys2Proof

namespace Sys2Proof.Machine

/-- Settles O3: each instruction drives what the rule of its row gives (`exec_eq_encoderRule`); the row has the
source, tiers and operand bounds of the rule, and its word is the one written out. -/
theorem colourAndClearValueWords : Obligations.ColourAndClearValueWords := by
  intro s
  refine ⟨fun red green blue => ?_, fun alpha => ?_, fun red green blue => ?_, fun alpha => ?_, fun value => ?_,
    fun value => ?_⟩
  · exact exec_eq_encoderRule (.colorRgb red green blue) .colorRgb rfl (encodeWord_colorRgb s.params red green blue)
  · exact exec_eq_encoderRule (.colorA alpha) .colorA rfl (encodeWord_colorA s.params alpha)
  · exact exec_eq_encoderRule (.clearColorRgb red green blue) .clearColorRgb rfl
      (encodeWord_clearColorRgb s.params red green blue)
  · exact exec_eq_encoderRule (.clearColorA alpha) .clearColorA rfl (encodeWord_clearColorA s.params alpha)
  · exact exec_eq_encoderRule (.clearStencil value) .clearStencil rfl (encodeWord_clearStencil s.params value)
  · exact exec_eq_encoderRule (.clearTag value) .clearTag rfl (encodeWord_clearTag s.params value)

/-- Settles O4: as O3, for the rows of the tag, the point size and the line width. -/
theorem tagPointAndLineWords : Obligations.TagPointAndLineWords := by
  intro s
  refine ⟨fun value => ?_, fun mask => ?_, fun size => ?_, fun width => ?_⟩
  · exact exec_eq_encoderRule (.tag value) .tag rfl (encodeWord_tag s.params value)
  · exact exec_eq_encoderRule (.tagMask mask) .tagMask rfl (encodeWord_tagMask s.params mask)
  · exact exec_eq_encoderRule (.pointSize size) .pointSize rfl (encodeWord_pointSize s.params size)
  · exact exec_eq_encoderRule (.lineWidth width) .lineWidth rfl (encodeWord_lineWidth s.params width)

/-- Settles O5: as O3, for the rows of the alpha and stencil tests. -/
theorem alphaAndStencilWords : Obligations.AlphaAndStencilWords := by
  intro s
  refine ⟨fun func ref => ?_, fun func ref mask => ?_, fun sfail spass => ?_, fun mask => ?_⟩
  · exact exec_eq_encoderRule (.alphaFunc func ref) .alphaFunc rfl (encodeWord_alphaFunc s.params func ref)
  · exact exec_eq_encoderRule (.stencilFunc func ref mask) .stencilFunc rfl
      (encodeWord_stencilFunc s.params func ref mask)
  · exact exec_eq_encoderRule (.stencilOp sfail spass) .stencilOp rfl (encodeWord_stencilOp s.params sfail spass)
  · exact exec_eq_encoderRule (.stencilMask mask) .stencilMask rfl (encodeWord_stencilMask s.params mask)

/-- Settles O6: as O3, for the rows of blending, the colour mask and the scissor. -/
theorem blendMaskAndScissorWords : Obligations.BlendMaskAndScissorWords := by
  intro s
  refine ⟨fun src dst => ?_, fun r g b a => ?_, fun x y => ?_, fun width height => ?_⟩
  · exact exec_eq_encoderRule (.blendFunc src dst) .blendFunc rfl (encodeWord_blendFunc s.params src dst)
  · exact exec_eq_encoderRule (.colorMask r g b a) .colorMask rfl (encodeWord_colorMask s.params r g b a)
  · exact exec_eq_encoderRule (.scissorXy x y) .scissorXy rfl (encodeWord_scissorXy s.params x y)
  · exact exec_eq_encoderRule (.scissorSize width height) .scissorSize rfl
      (encodeWord_scissorSize s.params width height)

end Sys2Proof.Machine
end

section
/-! O7 to O13: the words of 42_dl_bitmap.md, bit field by bit field (R161 to R181). -/

namespace Sys2Proof

/-- The word of R162 at either address width. -/
def bitmapSourceWord (addr : Int) : SourceWidth → Word
  | .w22 => 0x01#8 ++ 0#2 ++ BitVec.ofInt 22 addr
  | .w24 => 0x01#8 ++ BitVec.ofInt 24 addr

/-- The word of a tier-2 transform at either open width (R170, R172, R175, R177). -/
def tierTwoTransformWord (opcode : BitVec 8) (v : Int) : XformWidth → Word
  | .w17 => opcode ++ 0#7 ++ BitVec.ofInt 17 v
  | .w24 => opcode ++ BitVec.ofInt 24 v

section FieldLayouts

variable (opcode : BitVec 8)

theorem pack_bitmapSourceField (addr : Int) (width : SourceWidth) :
    pack (aboveBits 0x01#8 24) [(addr, ⟨"addr", width.bits, 0, false⟩)] = bitmapSourceWord addr width := by
  cases width with
  | w22 => exact pack_of_zerosBelow 2 rfl <| pack_of_fieldBelow rfl pack_of_allWritten
  | w24 => exact pack_of_fieldBelow rfl pack_of_allWritten

/-- A tier-2 transform has one field, of the open width, right-aligned (R169). -/
theorem pack_tierTwoTransformField (v : Int) (name : String) (width : XformWidth) :
    pack (aboveBits opcode 24) [(v, ⟨name, width.bits, 0, true⟩)] = tierTwoTransformWord opcode v width := by
  cases width with
  | w17 => exact pack_of_zerosBelow 7 rfl <| pack_of_fieldBelow rfl pack_of_allWritten
  | w24 => exact pack_of_fieldBelow rfl pack_of_allWritten

/-- A tier-3 transform has a selector above its value (R169). -/
theorem pack_tierThreeTransformFields (sel v : Int) :
    pack (aboveBits opcode 24) [(sel, ⟨"p", 1, 17, false⟩), (v, ⟨"v", 17, 0, true⟩)] =
      opcode ++ 0#6 ++ BitVec.ofInt 1 sel ++ BitVec.ofInt 17 v :=
  pack_of_zerosBelow 6 rfl <| pack_of_fieldBelow rfl <| pack_of_fieldBelow rfl pack_of_allWritten

end FieldLayouts

variable (p : Params)

theorem encodeWord_bitmapLayout (fmt linestride height : Int) :
    encodeWord p .bitmapLayout [fmt, linestride, height] =
      0x07#8 ++ BitVec.ofInt 5 fmt ++ BitVec.ofInt 10 linestride ++ BitVec.ofInt 9 height :=
  encodeWord_of_header 0x07#8 rfl <| pack_of_fieldBelow rfl <| pack_of_fieldBelow rfl <| pack_of_fieldBelow rfl
    pack_of_allWritten

theorem encodeWord_bitmapHandle (handle : Int) :
    encodeWord p .bitmapHandle [handle] = 0x05#8 ++ 0#19 ++ BitVec.ofInt 5 handle :=
  encodeWord_of_header 0x05#8 rfl <| pack_of_zerosBelow 19 rfl <| pack_of_fieldBelow rfl pack_of_allWritten

theorem encodeWord_cell (cellIndex : Int) :
    encodeWord p .cell [cellIndex] = 0x06#8 ++ 0#17 ++ BitVec.ofInt 7 cellIndex :=
  encodeWord_of_header 0x06#8 rfl <| pack_of_zerosBelow 17 rfl <| pack_of_fieldBelow rfl pack_of_allWritten

theorem encodeWord_bitmapSize (filter wrapx wrapy width height : Int) :
    encodeWord p .bitmapSize [filter, wrapx, wrapy, width, height] =
      0x08#8 ++ 0#3 ++ BitVec.ofInt 1 filter ++ BitVec.ofInt 1 wrapx ++ BitVec.ofInt 1 wrapy ++
        BitVec.ofInt 9 width ++ BitVec.ofInt 9 height :=
  encodeWord_of_header 0x08#8 rfl <| pack_of_zerosBelow 3 rfl <| pack_of_fieldBelow rfl <| pack_of_fieldBelow rfl <|
    pack_of_fieldBelow rfl <| pack_of_fieldBelow rfl <| pack_of_fieldBelow rfl pack_of_allWritten

theorem encodeWord_bitmapSource (addr : Int) :
    encodeWord p .bitmapSource [addr] = bitmapSourceWord addr p.bitmapSourceWidth :=
  encodeWord_of_header 0x01#8 rfl (pack_bitmapSourceField addr _)

theorem encodeWord_bitmapLayoutH (linestride height : Int) :
    encodeWord p .bitmapLayoutH [linestride, height] =
      0x28#8 ++ 0#20 ++ BitVec.ofInt 2 linestride ++ BitVec.ofInt 2 height :=
  encodeWord_of_header 0x28#8 rfl <| pack_of_zerosBelow 20 rfl <| pack_of_fieldBelow rfl <| pack_of_fieldBelow rfl
    pack_of_allWritten

theorem encodeWord_bitmapSizeH (width height : Int) :
    encodeWord p .bitmapSizeH [width, height] = 0x29#8 ++ 0#20 ++ BitVec.ofInt 2 width ++ BitVec.ofInt 2 height :=
  encodeWord_of_header 0x29#8 rfl <| pack_of_zerosBelow 20 rfl <| pack_of_fieldBelow rfl <| pack_of_fieldBelow rfl
    pack_of_allWritten

theorem encodeWord_paletteSource (addr : Int) :
    encodeWord p .paletteSource [addr] = 0x2A#8 ++ 0#2 ++ BitVec.ofInt 22 addr :=
  encodeWord_of_header 0x2A#8 rfl <| pack_of_zerosBelow 2 rfl <| pack_of_fieldBelow rfl pack_of_allWritten

theorem encodeWord_bitmapTransformAG2 (a : Int) :
    encodeWord p .bitmapTransformAG2 [a] = tierTwoTransformWord 0x15#8 a p.xformWidthA :=
  encodeWord_of_header 0x15#8 rfl (pack_tierTwoTransformField _ a _ _)

theorem encodeWord_bitmapTransformBG2 (b : Int) :
    encodeWord p .bitmapTransformBG2 [b] = tierTwoTransformWord 0x16#8 b p.xformWidthB :=
  encodeWord_of_header 0x16#8 rfl (pack_tierTwoTransformField _ b _ _)

theorem encodeWord_bitmapTransformDG2 (d : Int) :
    encodeWord p .bitmapTransformDG2 [d] = tierTwoTransformWord 0x18#8 d p.xformWidthD :=
  encodeWord_of_header 0x18#8 rfl (pack_tierTwoTransformField _ d _ _)

theorem encodeWord_bitmapTransformEG2 (e : Int) :
    encodeWord p .bitmapTransformEG2 [e] = tierTwoTransformWord 0x19#8 e p.xformWidthE :=
  encodeWord_of_header 0x19#8 rfl (pack_tierTwoTransformField _ e _ _)

theorem encodeWord_bitmapTransformAG3 (sel v : Int) :
    encodeWord p .bitmapTransformAG3 [sel, v] = 0x15#8 ++ 0#6 ++ BitVec.ofInt 1 sel ++ BitVec.ofInt 17 v :=
  encodeWord_of_header 0x15#8 rfl (pack_tierThreeTransformFields _ sel v)

theorem encodeWord_bitmapTransformBG3 (sel v : Int) :
    encodeWord p .bitmapTransformBG3 [sel, v] = 0x16#8 ++ 0#6 ++ BitVec.ofInt 1 sel ++ BitVec.ofInt 17 v :=
  encodeWord_of_header 0x16#8 rfl (pack_tierThreeTransformFields _ sel v)

theorem encodeWord_bitmapTransformDG3 (sel v : Int) :
    encodeWord p .bitmapTransformDG3 [sel, v] = 0x18#8 ++ 0#6 ++ BitVec.ofInt 1 sel ++ BitVec.ofInt 17 v :=
  encodeWord_of_header 0x18#8 rfl (pack_tierThreeTransformFields _ sel v)

theorem encodeWord_bitmapTransformEG3 (sel v : Int) :
    encodeWord p .bitmapTransformEG3 [sel, v] = 0x19#8 ++ 0#6 ++ BitVec.ofInt 1 sel ++ BitVec.ofInt 17 v :=
  encodeWord_of_header 0x19#8 rfl (pack_tierThreeTransformFields _ sel v)

theorem encodeWord_bitmapTransformC (c : Int) :
    encodeWord p .bitmapTransformC [c] = 0x17#8 ++ BitVec.ofInt 24 c :=
  encodeWord_of_header 0x17#8 rfl <| pack_of_fieldBelow rfl pack_of_allWritten

theorem encodeWord_bitmapTransformF (f : Int) :
    encodeWord p .bitmapTransformF [f] = 0x1A#8 ++ BitVec.ofInt 24 f :=
  encodeWord_of_header 0x1A#8 rfl <| pack_of_fieldBelow rfl pack_of_allWritten

theorem encodeWord_bitmapExtFormat (fmt : Int) :
    encodeWord p .bitmapExtFormat [fmt] = 0x2E#8 ++ 0#8 ++ BitVec.ofInt 16 fmt :=
  encodeWord_of_header 0x2E#8 rfl <| pack_of_zerosBelow 8 rfl <| pack_of_fieldBelow rfl pack_of_allWritten

theorem encodeWord_bitmapSwizzle (r g b a : Int) :
    encodeWord p .bitmapSwizzle [r, g, b, a] =
      0x2F#8 ++ 0#12 ++ BitVec.ofInt 3 r ++ BitVec.ofInt 3 g ++ BitVec.ofInt 3 b ++ BitVec.ofInt 3 a :=
  encodeWord_of_header 0x2F#8 rfl <| pack_of_zerosBelow 12 rfl <| pack_of_fieldBelow rfl <| pack_of_fieldBelow rfl <|
    pack_of_fieldBelow rfl <| pack_of_fieldBelow rfl pack_of_allWritten

end Sys2Proof

namespace Sys2Proof.Machine

/-- Settles O7: each instruction drives what the rule of its row gives (`exec_eq_encoderRule`); the row has the
source, tiers and operand bounds of the rule, and its word is the one written out. -/
theorem bitmapLayoutHandleAndSizeWords : Obligations.BitmapLayoutHandleAndSizeWords := by
  intro s
  refine ⟨fun fmt linestride height => ?_, fun handle => ?_, fun cellIndex => ?_,
    fun filter wrapx wrapy width height => ?_⟩
  · exact exec_eq_encoderRule (.bitmapLayout fmt linestride height) .bitmapLayout rfl
      (encodeWord_bitmapLayout s.params fmt linestride height)
  · exact exec_eq_encoderRule (.bitmapHandle handle) .bitmapHandle rfl (encodeWord_bitmapHandle s.params handle)
  · exact exec_eq_encoderRule (.cell cellIndex) .cell rfl (encodeWord_cell s.params cellIndex)
  · exact exec_eq_encoderRule (.bitmapSize filter wrapx wrapy width height) .bitmapSize rfl
      (encodeWord_bitmapSize s.params filter wrapx wrapy width height)

/-- Settles O8: as O7; the field of the row has the width of the parameter, and the word is that of either width
(`pack_bitmapSourceField`). -/
theorem bitmapSourceWordAtEitherWidth : Obligations.BitmapSourceWordAtEitherWidth := by
  intro s addr
  exact exec_eq_encoderRule (.bitmapSource addr) .bitmapSource rfl (encodeWord_bitmapSource s.params addr)

/-- Settles O9: as O7, for the rows of the high bits and the palette. -/
theorem bitmapHighBitsAndPaletteWords : Obligations.BitmapHighBitsAndPaletteWords := by
  intro s
  refine ⟨fun linestride height => ?_, fun width height => ?_, fun addr => ?_⟩
  · exact exec_eq_encoderRule (.bitmapLayoutH linestride height) .bitmapLayoutH rfl
      (encodeWord_bitmapLayoutH s.params linestride height)
  · exact exec_eq_encoderRule (.bitmapSizeH width height) .bitmapSizeH rfl
      (encodeWord_bitmapSizeH s.params width height)
  · exact exec_eq_encoderRule (.paletteSource addr) .paletteSource rfl (encodeWord_paletteSource s.params addr)

/-- Settles O10: as O7, the word being that of either width (`pack_tierTwoTransformField`). -/
theorem tierTwoTransformWordsAtEitherWidth : Obligations.TierTwoTransformWordsAtEitherWidth := by
  intro s
  refine ⟨fun a => ?_, fun b => ?_, fun d => ?_, fun e => ?_⟩
  · exact exec_eq_encoderRule (.bitmapTransformAG2 a) .bitmapTransformAG2 rfl (encodeWord_bitmapTransformAG2 s.params a)
  · exact exec_eq_encoderRule (.bitmapTransformBG2 b) .bitmapTransformBG2 rfl (encodeWord_bitmapTransformBG2 s.params b)
  · exact exec_eq_encoderRule (.bitmapTransformDG2 d) .bitmapTransformDG2 rfl (encodeWord_bitmapTransformDG2 s.params d)
  · exact exec_eq_encoderRule (.bitmapTransformEG2 e) .bitmapTransformEG2 rfl (encodeWord_bitmapTransformEG2 s.params e)

/-- Settles O11: as O7, for the rows with a selector. -/
theorem tierThreeTransformWords : Obligations.TierThreeTransformWords := by
  intro s
  refine ⟨fun sel v => ?_, fun sel v => ?_, fun sel v => ?_, fun sel v => ?_⟩
  · exact exec_eq_encoderRule (.bitmapTransformAG3 sel v) .bitmapTransformAG3 rfl
      (encodeWord_bitmapTransformAG3 s.params sel v)
  · exact exec_eq_encoderRule (.bitmapTransformBG3 sel v) .bitmapTransformBG3 rfl
      (encodeWord_bitmapTransformBG3 s.params sel v)
  · exact exec_eq_encoderRule (.bitmapTransformDG3 sel v) .bitmapTransformDG3 rfl
      (encodeWord_bitmapTransformDG3 s.params sel v)
  · exact exec_eq_encoderRule (.bitmapTransformEG3 sel v) .bitmapTransformEG3 rfl
      (encodeWord_bitmapTransformEG3 s.params sel v)

/-- Settles O12: as O7, for the rows of the translations. -/
theorem translationTransformWords : Obligations.TranslationTransformWords := by
  intro s
  refine ⟨fun c => ?_, fun f => ?_⟩
  · exact exec_eq_encoderRule (.bitmapTransformC c) .bitmapTransformC rfl (encodeWord_bitmapTransformC s.params c)
  · exact exec_eq_encoderRule (.bitmapTransformF f) .bitmapTransformF rfl (encodeWord_bitmapTransformF s.params f)

/-- Settles O13: as O7, for the rows of the extended format and the swizzle. -/
theorem extendedFormatAndSwizzleWords : Obligations.ExtendedFormatAndSwizzleWords := by
  intro s
  refine ⟨fun fmt => ?_, fun r g b a => ?_⟩
  · exact exec_eq_encoderRule (.bitmapExtFormat fmt) .bitmapExtFormat rfl (encodeWord_bitmapExtFormat s.params fmt)
  · exact exec_eq_encoderRule (.bitmapSwizzle r g b a) .bitmapSwizzle rfl (encodeWord_bitmapSwizzle s.params r g b a)

end Sys2Proof.Machine
end

section
/-! O47: the two variants of a redefined transform, one for tier 2 and one for the tiers above
(42_dl_bitmap.md R169). -/

namespace Sys2Proof.Machine

open Sys2Proof.Safety

/-- The mnemonic of a redefined transform. -/
def xformMnemonic (x : XformLetter) : String :=
  "BITMAP_TRANSFORM_" ++ (match x with | .a => "A" | .b => "B" | .d => "D" | .e => "E")

/-- The row of a redefined transform and variant. -/
def xformRow : XformLetter → Variant → DlOp
  | .a, .g2 => .bitmapTransformAG2
  | .b, .g2 => .bitmapTransformBG2
  | .d, .g2 => .bitmapTransformDG2
  | .e, .g2 => .bitmapTransformEG2
  | .a, .g3 => .bitmapTransformAG3
  | .b, .g3 => .bitmapTransformBG3
  | .d, .g3 => .bitmapTransformDG3
  | .e, .g3 => .bitmapTransformEG3

/-- The tiers of a variant: each tier has one of the two. -/
def variantTiers : Variant → TierRange
  | .g2 => tierTwoOnly
  | .g3 => tierThreeUp

section Rows

variable (p : Params) (x : XformLetter) (v : Variant)

theorem dlOpNamed_xformRow : dlOpNamed p (xformMnemonic x) (some v) = some (xformRow x v) := by
  cases x <;> cases v <;> rfl

/-- The rows of a redefined transform are its two variants, so its mnemonic alone names none. -/
theorem dlOpNamed_xformMnemonic_none : dlOpNamed p (xformMnemonic x) none = none := by
  cases x <;> rfl

/-- The one row of a translation has no variant. -/
theorem dlOpNamed_translation_some {letter : String} (h : letter ∈ ["C", "F"]) :
    dlOpNamed p ("BITMAP_TRANSFORM_" ++ letter) (some v) = none := by
  simp only [List.mem_cons, List.not_mem_nil, or_false] at h
  rcases h with rfl | rfl <;> cases v <;> rfl

theorem opsel_xformRow :
    (opsel p (xformRow x v)).mnemonic = xformMnemonic x ∧ (opsel p (xformRow x v)).variant = some v ∧
      (opsel p (xformRow x v)).tiers = variantTiers v := by
  cases x <;> cases v <;> exact ⟨rfl, rfl, rfl⟩

end Rows

theorem exists_xformMnemonic {letter : String} (h : letter ∈ ["A", "B", "D", "E"]) :
    ∃ x, "BITMAP_TRANSFORM_" ++ letter = xformMnemonic x := by
  simp only [List.mem_cons, List.not_mem_nil, or_false] at h
  rcases h with rfl | rfl | rfl | rfl
  · exact ⟨.a, rfl⟩
  · exact ⟨.b, rfl⟩
  · exact ⟨.d, rfl⟩
  · exact ⟨.e, rfl⟩

theorem tierVisible_variantTiers_g2 (t : Tier) : tierVisible (variantTiers .g2) t = false ↔ t ≠ .t2 :=
  Bool.eq_false_iff.trans (not_congr (tierVisible_two_two t))

theorem tierVisible_variantTiers_g3 (t : Tier) : tierVisible (variantTiers .g3) t = false ↔ t = .t2 := by
  cases t <;> decide

/-- A row outside the tier is a mismatch, whatever the operands: the check comes before theirs
(60_exceptions.md R304). -/
theorem wordResponse_of_invisible {p : Params} {t : Tier} {op : DlOp} (hgk : p.gkTableEnabled = true)
    (hvis : tierVisible (opsel p op).tiers t = false) (args : List Int) :
    wordResponse p t true op args =
      mismatch .instruction ⟨(opsel p op).mnemonic, (opsel p op).variant⟩ t (opsel p op).tiers := by
  have hlisted : ¬ (p.gkTableEnabled = false ∧ (opsel p op).src = .gk) := by simp [hgk]
  rw [wordResponse, if_neg (by decide), if_neg hlisted, if_pos hvis]

section Configured

variable {s : State} (hconf : s.configured = true) {mnemonic : String} {variant : Option Variant} (args : List Int)

include hconf

theorem serve_enc_of_unnamed (hnone : dlOpNamed s.params mnemonic variant = none) :
    s.serve (.enc mnemonic variant (args.map .int)) = { s with encOut := some (.refused .unknownInstruction) } := by
  simp only [State.serve, State.driveEnc, encAnswer, hconf, intArgs_map_int, hnone, Bool.true_eq_false, if_false]

theorem serve_enc_of_named {op : DlOp} (hop : dlOpNamed s.params mnemonic variant = some op) :
    s.serve (.enc mnemonic variant (args.map .int)) =
      { s with encOut := some (wordResponse s.params s.tier true op args) } := by
  simp only [State.serve, State.driveEnc, encAnswer, hconf, intArgs_map_int, hop, Bool.true_eq_false, if_false]

/-- A request for a variant that the tier does not have is a mismatch. -/
theorem serve_xform_of_invisible (hgk : s.params.gkTableEnabled = true) (x : XformLetter) {v : Variant}
    (hvis : tierVisible (variantTiers v) s.tier = false) :
    s.serve (.enc (xformMnemonic x) (some v) (args.map .int)) =
      { s with encOut := some (mismatch .instruction ⟨xformMnemonic x, some v⟩ s.tier (variantTiers v)) } := by
  obtain ⟨hmnemonic, hvariant, htiers⟩ := opsel_xformRow s.params x v
  have hresponse := wordResponse_of_invisible (op := xformRow x v) hgk (htiers ▸ hvis) args
  rw [serve_enc_of_named hconf args (dlOpNamed_xformRow s.params x v), hresponse, hmnemonic, hvariant, htiers]

end Configured

/-- Settles O47: the variant that is not the tier's is found and its tiers exclude TIER (`serve_xform_of_invisible`);
a missing or foreign variant finds no row. -/
theorem oneTransformVariantPerTier : Obligations.OneTransformVariantPerTier := by
  intro s letter args hconf hgk
  refine ⟨fun hletter => ?_, fun hletter v =>
    serve_enc_of_unnamed hconf args (dlOpNamed_translation_some s.params v hletter)⟩
  obtain ⟨x, hx⟩ := exists_xformMnemonic hletter
  rw [hx]
  refine ⟨fun htier => ?_, fun htier => ?_, ?_⟩
  · have hserve := serve_xform_of_invisible hconf args hgk x ((tierVisible_variantTiers_g3 s.tier).mpr htier)
    have htwo : s.tier.toNat = 2 := congrArg Tier.toNat htier
    rw [mismatch, htwo] at hserve
    exact hserve
  · exact serve_xform_of_invisible hconf args hgk x ((tierVisible_variantTiers_g2 s.tier).mpr htier)
  · exact serve_enc_of_unnamed hconf args (dlOpNamed_xformMnemonic_none s.params x)

end Sys2Proof.Machine
end

section
/-! O14: the words of 43_dl_flow.md, bit field by bit field (R201 to R209). -/

namespace Sys2Proof

variable (p : Params)

theorem encodeWord_display : encodeWord p .display [] = 0x00#8 ++ 0#24 :=
  encodeWord_of_header 0x00#8 rfl <| pack_of_zerosBelow 24 rfl pack_of_allWritten

theorem encodeWord_clear (cBit sBit tBit : Int) :
    encodeWord p .clear [cBit, sBit, tBit] =
      0x26#8 ++ 0#21 ++ BitVec.ofInt 1 cBit ++ BitVec.ofInt 1 sBit ++ BitVec.ofInt 1 tBit :=
  encodeWord_of_header 0x26#8 rfl <| pack_of_zerosBelow 21 rfl <| pack_of_fieldBelow rfl <| pack_of_fieldBelow rfl <|
    pack_of_fieldBelow rfl pack_of_allWritten

theorem encodeWord_saveContext : encodeWord p .saveContext [] = 0x22#8 ++ 0#24 :=
  encodeWord_of_header 0x22#8 rfl <| pack_of_zerosBelow 24 rfl pack_of_allWritten

theorem encodeWord_restoreContext : encodeWord p .restoreContext [] = 0x23#8 ++ 0#24 :=
  encodeWord_of_header 0x23#8 rfl <| pack_of_zerosBelow 24 rfl pack_of_allWritten

theorem encodeWord_call (dest : Int) :
    encodeWord p .call [dest] = 0x1D#8 ++ 0#8 ++ BitVec.ofInt 16 dest :=
  encodeWord_of_header 0x1D#8 rfl <| pack_of_zerosBelow 8 rfl <| pack_of_fieldBelow rfl pack_of_allWritten

theorem encodeWord_jump (dest : Int) :
    encodeWord p .jump [dest] = 0x1E#8 ++ 0#8 ++ BitVec.ofInt 16 dest :=
  encodeWord_of_header 0x1E#8 rfl <| pack_of_zerosBelow 8 rfl <| pack_of_fieldBelow rfl pack_of_allWritten

theorem encodeWord_ret : encodeWord p .ret [] = 0x24#8 ++ 0#24 :=
  encodeWord_of_header 0x24#8 rfl <| pack_of_zerosBelow 24 rfl pack_of_allWritten

theorem encodeWord_macroReg (which : Int) :
    encodeWord p .macroReg [which] = 0x25#8 ++ 0#23 ++ BitVec.ofInt 1 which :=
  encodeWord_of_header 0x25#8 rfl <| pack_of_zerosBelow 23 rfl <| pack_of_fieldBelow rfl pack_of_allWritten

theorem encodeWord_nop : encodeWord p .nop [] = 0x2D#8 ++ 0#24 :=
  encodeWord_of_header 0x2D#8 rfl <| pack_of_zerosBelow 24 rfl pack_of_allWritten

end Sys2Proof

namespace Sys2Proof.Machine

/-- Settles O14: each instruction drives what the rule of its row gives (`exec_eq_encoderRule`); the row has the
source, tiers and operand bounds of the rule, and its word is the one written out. -/
theorem frameAndFlowWords : Obligations.FrameAndFlowWords := by
  intro s
  refine ⟨?_, fun cBit sBit tBit => ?_, ?_, ?_, fun dest => ?_, fun dest => ?_, ?_, fun which => ?_, ?_⟩
  · exact exec_eq_encoderRule .display .display rfl (encodeWord_display s.params)
  · exact exec_eq_encoderRule (.clear cBit sBit tBit) .clear rfl (encodeWord_clear s.params cBit sBit tBit)
  · exact exec_eq_encoderRule .saveContext .saveContext rfl (encodeWord_saveContext s.params)
  · exact exec_eq_encoderRule .restoreContext .restoreContext rfl (encodeWord_restoreContext s.params)
  · exact exec_eq_encoderRule (.call dest) .call rfl (encodeWord_call s.params dest)
  · exact exec_eq_encoderRule (.jump dest) .jump rfl (encodeWord_jump s.params dest)
  · exact exec_eq_encoderRule .ret .ret rfl (encodeWord_ret s.params)
  · exact exec_eq_encoderRule (.macroReg which) .macroReg rfl (encodeWord_macroReg s.params which)
  · exact exec_eq_encoderRule .nop .nop rfl (encodeWord_nop s.params)

end Sys2Proof.Machine
end

section
/-! O15 to O17, O19: the frame a host command drives, byte by byte (44_host_commands.md R231 to R242). -/

namespace Sys2Proof

/-- The residue that a byte or word keeps of an operand is its two's-complement bits (00_scope.md R9). -/
theorem ofNat_field_eq_ofInt (v : Int) (n : Nat) : BitVec.ofNat n (field v n) = BitVec.ofInt n v := by
  apply BitVec.eq_of_toNat_eq
  rw [toNat_ofInt_eq_field, BitVec.toNat_ofNat, Nat.mod_eq_of_lt (field_lt v n)]

theorem encodeFrame_eq_ofInt (c : HostCmd) (param : Int) :
    encodeFrame c param = ⟨(hostRow c).code, BitVec.ofInt 8 param⟩ := by
  rw [encodeFrame, ofNat_field_eq_ofInt]

end Sys2Proof

namespace Sys2Proof.Machine

open Sys2Proof.Safety

/-- The framer's answer on a command is what a rule with the command's name, tiers and byte gives: the checks stand in
the same order, and the two readings of the parameter's range agree. -/
theorem frameResponse_eq_framerRule (s : State) (c : HostCmd) (param : Int) :
    frameResponse s.params s.tier s.configured c param =
      framerRule s (hostRow c).name (hostRow c).tiers (hostRow c).code param := by
  have hrange : ¬ (0 ≤ param ∧ param < 256) ↔ param < 0 ∨ 255 < param := by omega
  rw [frameResponse, framerRule, encodeFrame_eq_ofInt]
  exact if_congr Iff.rfl rfl (if_congr Iff.rfl rfl (if_congr Iff.rfl rfl
    (if_congr (and_congr_right' hrange) rfl rfl)))

/-- A host command drives what the rule of its row gives, and changes nothing else (R231). -/
theorem exec_eq_framerRule (i : Instr) (c : HostCmd) {s : State} {param : Int} (hitem : i.item = .host c)
    (hargs : i.args = [param]) :
    exec i s = .next { s with hostOut := some (framerRule s (hostRow c).name (hostRow c).tiers (hostRow c).code
      param) } := by
  rw [exec_of_host hitem, hargs, List.getD_cons_zero, frameRequest, frameResponse_eq_framerRule, State.driveHost]

/-- Settles O15: each command drives what the rule of its row gives (`exec_eq_framerRule`); the row has the name, tiers
and byte of the rule. -/
theorem lifecycleFrames : Obligations.LifecycleFrames := by
  intro s
  refine ⟨fun param => ?_, fun param => ?_, fun param => ?_, fun param => ?_, fun param => ?_⟩
  · exact exec_eq_framerRule (.hostActive param) .active rfl rfl
  · exact exec_eq_framerRule (.hostStandby param) .standby rfl rfl
  · exact exec_eq_framerRule (.hostSleep param) .sleep rfl rfl
  · exact exec_eq_framerRule (.hostClkext param) .clkext rfl rfl
  · exact exec_eq_framerRule (.hostPwrdown param) .pwrdown rfl rfl

/-- Settles O16: as O15, for the one row whose tiers end below 4. -/
theorem clkintFrameBelowTierFour : Obligations.ClkintFrameBelowTierFour :=
  fun _ param => exec_eq_framerRule (.hostClkint param) .clkint rfl rfl

/-- Settles O17: as O15, for the rows of the clock setting, the core reset under its two names and the pins. -/
theorem parameterAndResetFrames : Obligations.ParameterAndResetFrames := by
  intro s
  refine ⟨fun param => ?_, fun param => ?_, fun param => ?_, fun param => ?_, fun param => ?_⟩
  · exact exec_eq_framerRule (.hostClksel param) .clksel rfl rfl
  · exact exec_eq_framerRule (.hostRstPulse param) .rstPulse rfl rfl
  · exact exec_eq_framerRule (.hostCorerst param) .corerst rfl rfl
  · exact exec_eq_framerRule (.hostPindrive param) .pindrive rfl rfl
  · exact exec_eq_framerRule (.hostPinPdState param) .pinPdState rfl rfl

/-- A rule gives its frame where every check of R231 passes. -/
theorem framerRule_of_checks_passed {s : State} {tiers : TierRange} {param : Int} (name : String) (code : Byte)
    (hconf : s.configured = true) (hvis : tierVisible tiers s.tier = true) (hgk : s.params.gkTableEnabled = true)
    (hrange : s.params.strictRange = true → 0 ≤ param ∧ param < 256) :
    framerRule s name tiers code param = .ok ⟨code, BitVec.ofInt 8 param⟩ := by
  have hinside : ¬ (s.params.strictRange = true ∧ (param < 0 ∨ 255 < param)) := by
    rintro ⟨hstrict, houtside⟩
    have hbounds := hrange hstrict
    omega
  rw [framerRule, if_neg (by rw [hconf]; decide), if_neg (by rw [hvis]; decide), if_neg (by rw [hgk]; decide),
    if_neg hinside]

/-- Settles O19: the command drives what its rule gives, and each check of the rule passes. -/
theorem visibleHostCommandsDriveTheirFrame : Obligations.VisibleHostCommandsDriveTheirFrame := by
  intro s i c param hitem hargs hconf hgk hvis hrange
  rw [exec_eq_framerRule i c hitem hargs, framerRule_of_checks_passed _ _ hconf hvis hgk hrange]

end Sys2Proof.Machine
end

section
/-! O45: the encoder port and the framer port do not affect each other (44_host_commands.md R243, 10_state.md R30). -/

namespace Sys2Proof.Machine

/-- What a display-list instruction leads to: the encoder port alone is driven, with the row's answer at the
configuration of the state before. -/
theorem eq_driveEnc_of_exec {s t : State} {i : Instr} {op : DlOp} (hitem : i.item = .dl op) (h : exec i s = .next t) :
    t = s.driveEnc (wordResponse s.params s.tier s.configured op i.args) :=
  (Host.Outcome.next.inj ((exec_of_dl hitem s).symm.trans h)).symm

/-- What a host command leads to: the framer port alone is driven, with the command's answer at the configuration of
the state before. -/
theorem eq_driveHost_of_exec {s t : State} {j : Instr} {c : HostCmd} (hitem : j.item = .host c)
    (h : exec j s = .next t) :
    t = s.driveHost (frameResponse s.params s.tier s.configured c (j.args.getD 0 0)) :=
  (Host.Outcome.next.inj ((exec_of_host hitem s).symm.trans h)).symm

/-- Settles O45: each of the two drives its own port, with an answer that depends on TIER, CONFIGURED and the
parameters alone, and the other changes none of these. -/
theorem hostFramesAndWordsNeverMix : Obligations.HostFramesAndWordsNeverMix := by
  refine ⟨fun s i op hi => ⟨_, exec_of_dl hi s⟩, fun s j c hj => ⟨_, exec_of_host hj s⟩, ?_⟩
  intro s a b ab ba i j op c hi hj hia hjb hjab hiba
  obtain rfl := eq_driveEnc_of_exec hi hia
  obtain rfl := eq_driveHost_of_exec hj hjb
  obtain rfl := eq_driveHost_of_exec hj hjab
  obtain rfl := eq_driveEnc_of_exec hi hiba
  refine ⟨?wordKept, ?sameFrame, ?frameKept, ?sameWord⟩
  case wordKept => rw [State.driveHost_encOut]
  case sameFrame => simp only [State.driveHost_hostOut, State.driveEnc_params, State.driveEnc_tier,
    State.driveEnc_configured]
  case frameKept => rw [State.driveEnc_hostOut]
  case sameWord => simp only [State.driveEnc_encOut, State.driveHost_params, State.driveHost_tier,
    State.driveHost_configured]

end Sys2Proof.Machine
end

section
/-! The one namespace of registers, second names, windows and constants, and what a lookup finds in it
(45_register_address_map.md R260, R270). -/

namespace Sys2Proof.Machine

/-! A table whose keys are distinct, searched by key. -/

section Lookup

variable {α : Type} {key : α → String} {table : List α}

theorem find?_key_of_mem (hnodup : (table.map key).Nodup) {a : α} (ha : a ∈ table) :
    (table.find? fun x => key x == key a) = some a := by
  cases hfound : table.find? fun x => key x == key a with
  | none => exact absurd (beq_self_eq_true (key a)) (List.find?_eq_none.mp hfound a ha)
  | some b =>
    have hkey : key b = key a := eq_of_beq (List.find?_some hfound :)
    rw [List.inj_on_of_nodup_map hnodup (List.mem_of_find?_eq_some hfound) ha hkey]

theorem find?_key_of_notMem {name : String} (h : name ∉ table.map key) :
    (table.find? fun x => key x == name) = none :=
  List.find?_eq_none.mpr fun _ hx hkey => h (List.mem_map.mpr ⟨_, hx, eq_of_beq hkey⟩)

end Lookup

/-! No address and no name stands twice. -/

/-- Every name of the map, in the order in which a lookup searches (R260). -/
def mapNames : List String :=
  registers.map (·.name) ++ registerSynonyms.map (·.1) ++ windowOrder.map windowName ++ constants.map (·.name)

/-- The bytes of a name read as the digits of one number, so that names are compared as numbers are. -/
def nameNumber (name : String) : Nat :=
  name.toByteArray.data.toList.foldl (fun n b => 256 * n + b.toNat) 0

/-- Once sorted, neighbours are all there is to compare. -/
theorem nodup_of_insertionSort_isChain {l : List Nat} (h : (l.insertionSort (· ≤ ·)).IsChain (· < ·)) : l.Nodup :=
  (l.perm_insertionSort (· ≤ ·)).nodup_iff.mp (List.sortedLT_iff_isChain.mpr h).nodup

theorem registerAddresses_nodup : (registers.map (·.address)).Nodup :=
  nodup_of_insertionSort_isChain (by decide +kernel)

theorem mapNames_nodup : mapNames.Nodup :=
  List.Nodup.of_map nameNumber (nodup_of_insertionSort_isChain (by decide +kernel))

/-- Settles O55: the addresses and the names are distinct, and the conditions on a row are checked row by row. -/
theorem registerTableIsWellFormed : Obligations.RegisterTableIsWellFormed :=
  ⟨registerAddresses_nodup, mapNames_nodup, by decide⟩

/-! The names of two kinds are apart (R260). -/

theorem secondName_notMem_registers {q : String × String} (hq : q ∈ registerSynonyms) :
    q.1 ∉ registers.map (·.name) := fun h =>
  List.disjoint_of_nodup_append mapNames_nodup.of_append_left.of_append_left h (List.mem_map_of_mem hq)

theorem windowName_notMem_registers (w : Window) :
    windowName w ∉ registers.map (·.name) ++ registerSynonyms.map (·.1) := fun h =>
  List.disjoint_of_nodup_append mapNames_nodup.of_append_left h (List.mem_map_of_mem (mem_windowOrder w))

theorem constantName_notMem_registers_windows {c : ConstantEntry} (hc : c ∈ constants) :
    c.name ∉ registers.map (·.name) ++ registerSynonyms.map (·.1) ++ windowOrder.map windowName := fun h =>
  List.disjoint_of_nodup_append mapNames_nodup h (List.mem_map_of_mem hc)

/-! What a register name and a second name stand for (R264 to R268). -/

theorem registerNamed_of_mem {r : RegisterEntry} (hr : r ∈ registers) : registerNamed r.name = some r := by
  have hnodup : (registers.map (·.name)).Nodup := mapNames_nodup.of_append_left.of_append_left.of_append_left
  simp only [registerNamed, find?_key_of_mem hnodup hr]

theorem registerNamed_of_secondName {q : String × String} {r : RegisterEntry} (hq : q ∈ registerSynonyms)
    (hr : r ∈ registers) (hname : r.name = q.2) : registerNamed q.1 = some r := by
  have hregisters : (registers.map (·.name)).Nodup := mapNames_nodup.of_append_left.of_append_left.of_append_left
  have hsynonyms : (registerSynonyms.map (·.1)).Nodup := mapNames_nodup.of_append_left.of_append_left.of_append_right
  simp only [registerNamed, find?_key_of_notMem (secondName_notMem_registers hq), find?_key_of_mem hsynonyms hq,
    ← hname, find?_key_of_mem hregisters hr]

theorem registerNamed_eq_none {name : String} (h : name ∉ registers.map (·.name) ++ registerSynonyms.map (·.1)) :
    registerNamed name = none := by
  obtain ⟨hregister, hsecond⟩ := not_or.mp (mt List.mem_append.mpr h)
  simp only [registerNamed, find?_key_of_notMem hregister, find?_key_of_notMem hsecond]

/-! The entry of a name, by its kind. -/

theorem mapEntryNamed_of_registerNamed {name : String} {r : RegisterEntry} (h : registerNamed name = some r) :
    mapEntryNamed name = some (registerEntry r) := by
  simp only [mapEntryNamed, h]

theorem mapEntryNamed_windowName (w : Window) : mapEntryNamed (windowName w) = some (windowEntry w) := by
  have hnodup : (windowOrder.map windowName).Nodup := mapNames_nodup.of_append_left.of_append_right
  simp only [mapEntryNamed, registerNamed_eq_none (windowName_notMem_registers w),
    find?_key_of_mem hnodup (mem_windowOrder w)]

theorem mapEntryNamed_constantName {c : ConstantEntry} (hc : c ∈ constants) :
    mapEntryNamed c.name = some (constantEntry c) := by
  have hnodup : (constants.map (·.name)).Nodup := mapNames_nodup.of_append_right
  obtain ⟨hregister, hwindow⟩ := not_or.mp (mt List.mem_append.mpr (constantName_notMem_registers_windows hc))
  simp only [mapEntryNamed, registerNamed_eq_none hregister, find?_key_of_notMem hwindow,
    find?_key_of_mem hnodup hc, Option.map_some]

/-- All a name of the map can be: a register's, a window's or a constant's (R261). -/
theorem mapEntryNamed_cases {name : String} {e : MapEntry} (h : mapEntryNamed name = some e) :
    (∃ r, e = registerEntry r) ∨ (∃ w, windowName w = name ∧ e = windowEntry w) ∨
    (∃ c ∈ constants, c.name = name ∧ e = constantEntry c) := by
  unfold mapEntryNamed at h
  split at h
  · next r _ => exact .inl ⟨r, (Option.some.inj h).symm⟩
  · split at h
    · next w hw => exact .inr (.inl ⟨w, eq_of_beq (List.find?_some hw :), (Option.some.inj h).symm⟩)
    · obtain ⟨c, hc, rfl⟩ := Option.map_eq_some_iff.mp h
      exact .inr (.inr ⟨c, List.mem_of_find?_eq_some hc, eq_of_beq (List.find?_some hc :), rfl⟩)

end Sys2Proof.Machine
end

section
/-! O51 to O53: the rows of the address tables, each found under its name (45_register_address_map.md R264 to
R268). -/

namespace Sys2Proof.Machine

/-- A stretch of the register table that one tier brings in: each of its names resolves to its own row. -/
theorem rowsResolve {rows : List RegisterEntry} {tmin : Nat} (skip count : Nat)
    (hrows : rows = (registers.drop skip).take count) (htmin : ∀ r ∈ rows, r.tmin = tmin) :
    ∀ r ∈ rows, registerNamed r.name = some r ∧ accessClassOf r.name = some r.access ∧
      mapEntryNamed r.name = some ⟨.address (BitVec.ofNat 24 r.address), ⟨tmin, none⟩, .register, .gk⟩ := by
  intro r hr
  have hmem : r ∈ registers := List.mem_of_mem_drop (List.mem_of_mem_take (hrows ▸ hr))
  have hnamed : registerNamed r.name = some r := registerNamed_of_mem hmem
  refine ⟨hnamed, congrArg (Option.map RegisterEntry.access) hnamed, ?_⟩
  rw [mapEntryNamed_of_registerNamed hnamed, registerEntry, htmin r hr]

/-- Settles O51: the rows stand in the table in this order, and each is found by its name. -/
theorem tierTwoRegisterAddresses : Obligations.TierTwoRegisterAddresses :=
  ⟨rowsResolve 0 16 rfl (by decide), rowsResolve 16 16 rfl (by decide), rowsResolve 32 16 rfl (by decide),
   rowsResolve 48 16 rfl (by decide), rowsResolve 64 16 rfl (by decide), rowsResolve 80 13 rfl (by decide),
   rowsResolve 93 7 rfl (by decide)⟩

/-- Settles O52: the rows of the higher tiers close the table, and each is found by its name. -/
theorem higherTierRegisterAddresses : Obligations.HigherTierRegisterAddresses :=
  ⟨rowsResolve 100 6 rfl (by decide), rowsResolve 106 4 rfl (by decide)⟩

/-- A second name of a tier-2 register resolves as the register does (R268). -/
theorem secondName_resolves {second first : String} {r : RegisterEntry} (hq : (second, first) ∈ registerSynonyms)
    (hr : r ∈ registers) (hname : r.name = first) (htmin : r.tmin = 2) :
    mapEntryNamed second = mapEntryNamed first ∧ accessClassOf second = accessClassOf first ∧
    mapEntryNamed second = some ⟨.address (BitVec.ofNat 24 r.address), ⟨2, none⟩, .register, .gk⟩ := by
  have hfirst : registerNamed first = some r := hname ▸ registerNamed_of_mem hr
  have hsecond : registerNamed second = some r := registerNamed_of_secondName hq hr hname
  rw [mapEntryNamed_of_registerNamed hfirst, mapEntryNamed_of_registerNamed hsecond, accessClassOf, accessClassOf,
    hfirst, hsecond, registerEntry, htmin]
  exact ⟨rfl, rfl, rfl⟩

/-- Settles O53: each pair is a row of the second names whose register has the address given; a window is found by its
name. -/
theorem secondNamesAndWindowNames : Obligations.SecondNamesAndWindowNames := by
  refine ⟨?secondNames, mapEntryNamed_windowName .ramG, mapEntryNamed_windowName .romFont,
    mapEntryNamed_windowName .romFontRoot, mapEntryNamed_windowName .ramDl, mapEntryNamed_windowName .ramReg,
    mapEntryNamed_windowName .ramCmd, mapEntryNamed_windowName .ramReg2, mapEntryNamed_windowName .ramErrReport⟩
  case secondNames =>
    intro q hq
    have hpair : (q.1, q.2.1) ∈ registerSynonyms := List.mem_map_of_mem (f := fun q => (q.1, q.2.1)) hq
    have hregister : ∃ r ∈ registers, r.name = q.2.1 ∧ r.tmin = 2 ∧ r.address = q.2.2 := by
      revert q
      decide
    obtain ⟨r, hr, hname, htmin, haddress⟩ := hregister
    exact haddress ▸ secondName_resolves hpair hr hname htmin

end Sys2Proof.Machine
end

section
/-! O49: the lookup as one rule, and the names that are the source's own (45_register_address_map.md R261). -/

namespace Sys2Proof.Machine

/-- A lookup answers a value just where the name is known, not withheld, and visible at the tier (R261). -/
theorem mapAnswer_eq_ok_iff {p : Params} {t : Tier} {name : String} {v : MapValue} :
    mapAnswer p t true name = .ok v ↔
      ∃ e, mapEntryNamed name = some e ∧ ¬ (p.gkTableEnabled = false ∧ e.src = .gk) ∧ tierVisible e.tiers t = true ∧
        e.value = v := by
  constructor
  · intro hok
    rcases mapAnswer_cases p t true name with ⟨hc, _⟩ | ⟨_, _, h⟩ | ⟨_, _, _, _, _, h⟩ | ⟨_, _, _, _, _, h⟩ |
      ⟨e, _, he, hsrc, hvis, h⟩
    · cases hc
    · cases h.symm.trans hok
    · cases h.symm.trans hok
    · cases h.symm.trans hok
    · exact ⟨e, he, hsrc, hvis, Response.ok.inj (h.symm.trans hok)⟩
  · rintro ⟨e, he, hsrc, hvis, rfl⟩
    simp [mapAnswer, he, hsrc, hvis]

/-- The windows whose bases are the source's own (R261). -/
def sourceWindows : List Window :=
  [.ramG, .ramDl, .ramReg, .ramCmd, .ramReg2]

theorem mem_sourceWindows_iff (w : Window) : w ∈ sourceWindows ↔ windowSource w = .doc := by
  cases w <;> decide

/-- The one constant that is the source's own (46_operand_constants.md R291). -/
def rects : ConstantEntry :=
  ⟨"RECTS", 9, 2, .doc⟩

theorem rects_mem_constants : rects ∈ constants := by
  decide

theorem eq_rects_of_mem_constants : ∀ c ∈ constants, c.src = .doc → c = rects := by
  decide

/-- The entries that are the source's own, each under its name (R261). -/
def sourceEntries : List (String × MapEntry) :=
  sourceWindows.map (fun w => (windowName w, windowEntry w)) ++ [(rects.name, constantEntry rects)]

theorem mem_sourceEntries_iff (name : String) (e : MapEntry) :
    (name, e) ∈ sourceEntries ↔ mapEntryNamed name = some e ∧ e.src = .doc := by
  simp only [sourceEntries, List.mem_append, List.mem_map, List.mem_singleton, Prod.mk.injEq]
  constructor
  · rintro (⟨w, hw, rfl, rfl⟩ | ⟨rfl, rfl⟩)
    · exact ⟨mapEntryNamed_windowName w, (mem_sourceWindows_iff w).mp hw⟩
    · exact ⟨mapEntryNamed_constantName rects_mem_constants, rfl⟩
  · rintro ⟨he, hsrc⟩
    rcases mapEntryNamed_cases he with ⟨r, rfl⟩ | ⟨w, rfl, rfl⟩ | ⟨c, hc, rfl, rfl⟩
    · cases hsrc
    · exact .inl ⟨w, (mem_sourceWindows_iff w).mpr hsrc, rfl, rfl⟩
    · obtain rfl := eq_rects_of_mem_constants c hc hsrc
      exact .inr ⟨rfl, rfl⟩

/-- The source's own entries belong to every tier. -/
theorem tierVisible_of_mem_sourceEntries {q : String × MapEntry} (hq : q ∈ sourceEntries) (t : Tier) :
    tierVisible q.2.tiers t = true := by
  have htiers : ∀ q ∈ sourceEntries, q.2.tiers = ⟨2, none⟩ := by decide
  rw [htiers q hq]
  cases t <;> rfl

/-- With the general-knowledge table off a lookup answers the source's own entries, and those alone (R261). -/
theorem mapAnswer_eq_ok_iff_of_gkOff {p : Params} (hgk : p.gkTableEnabled = false) (t : Tier) (name : String)
    (v : MapValue) : mapAnswer p t true name = .ok v ↔ ∃ e, (name, e) ∈ sourceEntries ∧ e.value = v := by
  rw [mapAnswer_eq_ok_iff]
  constructor
  · rintro ⟨e, he, hsrc, _, hv⟩
    have hdoc : e.src = .doc := by
      cases h : e.src with
      | doc => rfl
      | gk => exact absurd ⟨hgk, h⟩ hsrc
    exact ⟨e, (mem_sourceEntries_iff name e).mpr ⟨he, hdoc⟩, hv⟩
  · rintro ⟨e, hmem, hv⟩
    obtain ⟨he, hdoc⟩ := (mem_sourceEntries_iff name e).mp hmem
    exact ⟨e, he, by simp [hdoc], tierVisible_of_mem_sourceEntries hmem t, hv⟩

/-- The tier test with the upper bound as a member of the option (10_state.md R32). -/
theorem tierVisible_iff_forall_mem (r : TierRange) (t : Tier) :
    tierVisible r t = true ↔ r.tmin ≤ t.toNat ∧ ∀ m ∈ r.tmax, t.toNat ≤ m :=
  tierVisible_iff r t

theorem mismatchKind_eq_ite (k : NameKind) :
    mismatchKind k = if k = .constant then .constant else .registerOrWindow := by
  cases k <;> rfl

/-- Settles O49: a step on a lookup serves it, each of its outcomes is the rule's (`mapAnswer_cases`), the code of a
mismatch is read off its kind, and with the table off the source's own entries are left. -/
theorem lookupsWithoutGeneralKnowledge : Obligations.LookupsWithoutGeneralKnowledge := by
  refine ⟨?rule, ?codes, ?sourceOnly⟩
  case rule =>
    intro s rest name
    rw [step_cons, State.serve, State.driveMap]
    rcases mapAnswer_cases s.params s.tier s.configured name with ⟨hc, h⟩ | ⟨hc, he, h⟩ | ⟨e, hc, he, hgk, hsrc, h⟩ |
      ⟨e, hc, he, hsrc, hvis, h⟩ | ⟨e, hc, he, hsrc, hvis, h⟩ <;> simp only [h]
    · simp only [hc, if_true]
    · simp only [hc, he, Bool.true_eq_false, if_false]
    · simp only [hc, he, hgk, hsrc, and_self, Bool.true_eq_false, if_true, if_false]
    · have hout := mt (tierVisible_iff_forall_mem e.tiers s.tier).mpr (Bool.eq_false_iff.mp hvis)
      simp only [hc, he, if_neg hsrc, Bool.true_eq_false, if_false]
      rw [if_neg hout, mismatch, mismatchKind_eq_ite]
    · have hin := (tierVisible_iff_forall_mem e.tiers s.tier).mp hvis
      simp only [hc, he, if_neg hsrc, Bool.true_eq_false, if_false]
      rw [if_pos hin]
  case codes =>
    intro kind item tier tmin tmax
    cases kind <;> simp [errorCode]
  case sourceOnly =>
    intro p t name v hgk
    rw [mapAnswer_eq_ok_iff_of_gkOff hgk]
    have hvalues : (name, v) ∈ sourceEntries.map (fun q => (q.1, q.2.value)) ↔
        ∃ e, (name, e) ∈ sourceEntries ∧ e.value = v := by simp
    exact hvalues.symm

end Sys2Proof.Machine
end

section
/-! O54: the operand constants, each found under its name (46_operand_constants.md R290 to R299). -/

namespace Sys2Proof.Machine

/-- Values that stand in the table of constants, in its order, under one lowest tier: each name resolves to its own
value. ZERO of the stencil operations stands among the blend factors (R290), ahead of the rest of its group. -/
theorem constantsResolve {values : List (String × Nat)} {tmin : Nat}
    (hrows : (values.map fun q => ⟨q.1, q.2, tmin, .gk⟩).Sublist constants) :
    ∀ q ∈ values, mapEntryNamed q.1 = some ⟨.constant q.2, ⟨tmin, none⟩, .constant, .gk⟩ := by
  intro q hq
  have hmem : ⟨q.1, q.2, tmin, .gk⟩ ∈ constants := hrows.subset (List.mem_map_of_mem hq)
  exact mapEntryNamed_constantName hmem

/-- Settles O54: the values of a group stand in the table in this order, each found by its name; RECTS is the
source's. -/
theorem operandConstantValues : Obligations.OperandConstantValues := by
  refine ⟨?primitiveTypes, ?rects, ?bitmapFormats, ?extendedFormats, ?testFunctions, ?blendFactors,
    ?stencilOperations, ?filterAndWrap, ?registerValues, ?swizzleSources⟩
  case rects => exact mapEntryNamed_constantName rects_mem_constants
  all_goals exact constantsResolve (by decide)

end Sys2Proof.Machine
end

section
/-! The integers among the operands of a request (60_exceptions.md R303, NonInteger). -/

namespace Sys2Proof.Machine

theorem Operand.eq_int_of_int?_eq_some {o : Operand} {v : Int} (h : o.int? = some v) : o = .int v := by
  cases o with
  | int u => exact congrArg Operand.int (Option.some.inj h)
  | nonInteger text => cases h

/-- Operands that are all integers are the integers read from them. -/
theorem eq_map_int_of_intArgs {args : List Operand} {vs : List Int} (h : intArgs args = some vs) :
    args = vs.map .int := by
  induction args generalizing vs with
  | nil => cases h; rfl
  | cons a rest ih =>
    unfold intArgs at h
    split at h
    · next v us ha hrest =>
      cases h
      rw [List.map_cons, Operand.eq_int_of_int?_eq_some ha, ← ih hrest]
    · cases h

/-- No list of integers is read where some operand is not one. -/
theorem intArgs_eq_none_iff (args : List Operand) :
    intArgs args = none ↔ (args.any fun a => a.int?.isNone) = true := by
  induction args with
  | nil => simp [intArgs]
  | cons a rest ih =>
    rw [List.any_cons, Bool.or_eq_true, ← ih, Option.isNone_iff_eq_none]
    cases ha : a.int? <;> cases hrest : intArgs rest <;> simp [intArgs, ha, hrest]

theorem hasNonInteger_enc_iff (mnemonic : String) (variant : Option Variant) (args : List Operand) :
    Safety.hasNonInteger (.enc mnemonic variant args) = true ↔ intArgs args = none :=
  (intArgs_eq_none_iff args).symm

theorem filterMap_int?_map_int (vs : List Int) : (vs.map Operand.int).filterMap Operand.int? = vs := by
  rw [List.filterMap_map]
  exact List.filterMap_some

end Sys2Proof.Machine
end

section
/-! A row or command that a name finds bears that name (30_encoding.md R65, 44_host_commands.md R231). -/

namespace Sys2Proof.Machine

theorem opsel_of_dlOpNamed {p : Params} {mnemonic : String} {variant : Option Variant} {op : DlOp}
    (h : dlOpNamed p mnemonic variant = some op) :
    (opsel p op).mnemonic = mnemonic ∧ (opsel p op).variant = variant := by
  have hfound := List.find?_some h
  simpa using hfound

theorem hostRow_of_hostCmdNamed {name : String} {c : HostCmd} (h : hostCmdNamed name = some c) :
    (hostRow c).name = name := by
  have hfound := List.find?_some h
  simpa using hfound

end Sys2Proof.Machine
end

section
/-! O38: the range test, on and off (60_exceptions.md R302). -/

namespace Sys2Proof

/-- The operand at the first place where one is out of range is the one reported (R304, item 8). -/
theorem firstOutOfRange_eq_some {args : List Int} {fs : List FieldDesc} {k : Nat} {f : FieldDesc}
    (hlen : args.length = fs.length) (hk : fs[k]? = some f) (hout : inRange (args.getD k 0) f = false)
    (hbefore : ∀ j g, j < k → fs[j]? = some g → inRange (args.getD j 0) g = true) :
    firstOutOfRange args fs = some (f, args.getD k 0) := by
  induction fs generalizing args k with
  | nil => cases hk
  | cons g fs ih =>
    cases args with
    | nil => cases hlen
    | cons v vs =>
      cases k with
      | zero =>
        obtain rfl : g = f := Option.some.inj hk
        exact if_neg (Bool.eq_false_iff.mp hout)
      | succ k =>
        have hhead : inRange v g = true := hbefore 0 g k.succ_pos rfl
        rw [firstOutOfRange, if_pos hhead]
        exact ih (Nat.succ.inj hlen) hk hout fun j g' hj hg' => hbefore (j + 1) g' (Nat.succ_lt_succ hj) hg'

/-- Nothing is reported where the operand at every place is in range. -/
theorem firstOutOfRange_eq_none_of_getD {args : List Int} {fs : List FieldDesc}
    (hin : ∀ (k : Nat) (f : FieldDesc), fs[k]? = some f → inRange (args.getD k 0) f = true) :
    firstOutOfRange args fs = none := by
  induction fs generalizing args with
  | nil => cases args <;> rfl
  | cons g fs ih =>
    cases args with
    | nil => rfl
    | cons v vs =>
      have hhead : inRange v g = true := hin 0 g rfl
      rw [firstOutOfRange, if_pos hhead]
      exact ih fun k f hf => hin (k + 1) f hf

end Sys2Proof

namespace Sys2Proof.Machine

open Sys2Proof.Safety

theorem opsel_strictRange (p : Params) (b : Bool) (op : DlOp) : opsel { p with strictRange := b } op = opsel p op := by
  cases op <;> rfl

/-- Where every other check of R304 passes, STRICT_RANGE reports the first operand out of range. -/
theorem wordResponse_of_firstOutOfRange {p : Params} {t : Tier} {op : DlOp} {args : List Int} {f : FieldDesc} {v : Int}
    (hstrict : p.strictRange = true) (hgk : p.gkTableEnabled = true) (hvis : tierVisible (opsel p op).tiers t = true)
    (hlen : args.length = (opsel p op).fields.length)
    (hfirst : firstOutOfRange args (opsel p op).fields = some (f, v)) :
    wordResponse p t true op args = .err (.operandRange (opsel p op).mnemonic f.name v) := by
  simp [wordResponse, hstrict, hgk, hvis, hlen, hfirst]

/-- With every operand in range the answer of a row does not depend on STRICT_RANGE. -/
theorem wordResponse_of_firstOutOfRange_none {p : Params} {op : DlOp} {args : List Int}
    (hnone : firstOutOfRange args (opsel p op).fields = none) (b : Bool) (t : Tier) (c : Bool) :
    wordResponse { p with strictRange := b } t c op args = wordResponse p t c op args := by
  simp only [wordResponse, encodeWord, opsel_strictRange, hnone, ite_self]

/-- With the parameter in range the answer of a command does not depend on STRICT_RANGE. -/
theorem frameResponse_of_inRange {v : Int} (hv : 0 ≤ v ∧ v < 256) (p : Params) (b : Bool) (t : Tier) (c : Bool)
    (cmd : HostCmd) : frameResponse { p with strictRange := b } t c cmd v = frameResponse p t c cmd v := by
  simp only [frameResponse, hv, and_self, not_true_eq_false, and_false]

/-- Code 5 stands in no response where STRICT_RANGE is false (R302). -/
theorem errorCode_ne_five {p : Params} {codes : List Nat} {e : ErrorInfo} (hoff : p.strictRange = false)
    (h : CodeAllowed p codes e) : errorCode e ≠ 5 := fun h5 =>
  absurd (hoff.symm.trans (h.2 h5)) (by decide)

/-- Settles O38: code 5 needs STRICT_RANGE (`wordResponse_sound`, `frameResponse_sound`); with it the first operand out
of range is reported, and with none out of range the parameter is not read. -/
theorem rangeErrorsOnlyUnderStrictRange : Obligations.RangeErrorsOnlyUnderStrictRange := by
  refine ⟨fun s t i hoff hexec => ⟨fun op e hi he => ?_, fun c e hi he => ?_⟩,
    fun p t op args hstrict hgk hvis hlen => ⟨fun k f hk hout hbefore => ?_, fun hin => ?_⟩,
    fun p t c v hstrict hgk hvis => ⟨fun hout => ?_, fun hlow hhigh => ?_⟩⟩
  · obtain rfl := eq_driveEnc_of_exec hi hexec
    obtain ⟨_, hcode⟩ := (wordResponse_sound _ _ _ op i.args).error e (Option.some.inj he)
    exact errorCode_ne_five hoff hcode
  · obtain rfl := eq_driveHost_of_exec hi hexec
    obtain ⟨_, hcode⟩ := (frameResponse_sound _ _ _ c _).error e (Option.some.inj he)
    exact errorCode_ne_five hoff hcode
  · exact wordResponse_of_firstOutOfRange hstrict hgk hvis hlen (firstOutOfRange_eq_some hlen hk hout hbefore)
  · exact (wordResponse_of_firstOutOfRange_none (firstOutOfRange_eq_none_of_getD hin) false t true).symm
  · have houtside : ¬ (0 ≤ v ∧ v < 256) := by omega
    simp only [frameResponse, hvis, hgk, hstrict, houtside, Bool.true_eq_false, if_false, not_false_eq_true, and_self,
      if_true]
  · exact (frameResponse_of_inRange ⟨hlow, by omega⟩ p false t true c).symm

end Sys2Proof.Machine
end

section
/-! O39: the answer of each port as a priority list (60_exceptions.md R304). -/

namespace Sys2Proof.Machine

open Sys2Proof.Safety

/-- The range checks of a row's operands, one by one, report the first operand out of range (R304, item 8). -/
theorem firstThat_rangeChecks (strict : Bool) (mnemonic : String) (otherwise : Response Word) (vs : List Int)
    (fs : List FieldDesc) :
    firstThat otherwise ((vs.zip fs).map fun q =>
        (strict && !inRange q.1 q.2, .err (.operandRange mnemonic q.2.name q.1))) =
      ((if strict then firstOutOfRange vs fs else none).elim otherwise fun q =>
        .err (.operandRange mnemonic q.1.name q.2)) := by
  induction vs generalizing fs with
  | nil => cases strict <;> rfl
  | cons v vs ih =>
    cases fs with
    | nil => cases strict <;> rfl
    | cons f fs =>
      have htail := ih fs
      rw [List.zip_cons_cons, List.map_cons, firstThat, htail, firstOutOfRange]
      cases strict <;> cases inRange v f <;> rfl

/-- A configured block's answer on a row, check by check. -/
theorem wordResponse_eq_firstThat (p : Params) (t : Tier) (op : DlOp) (vs : List Int) :
    wordResponse p t true op vs =
      firstThat (.ok (encodeWord p op vs))
        ([(!p.gkTableEnabled && (opsel p op).src == .gk, .refused .notInSource),
          (!tierVisible (opsel p op).tiers t,
            mismatch .instruction ⟨(opsel p op).mnemonic, (opsel p op).variant⟩ t (opsel p op).tiers),
          (vs.length != (opsel p op).fields.length, .refused .arity)] ++
         (vs.zip (opsel p op).fields).map fun q =>
          (p.strictRange && !inRange q.1 q.2, .err (.operandRange (opsel p op).mnemonic q.2.name q.1))) := by
  rw [List.cons_append, List.cons_append, List.cons_append, List.nil_append, firstThat, firstThat, firstThat,
    firstThat_rangeChecks, wordResponse, if_neg (by decide)]
  refine if_congr (by simp) rfl (if_congr (by simp) rfl (if_congr (by simp) rfl ?_))
  cases (if p.strictRange then firstOutOfRange vs (opsel p op).fields else none) <;> rfl

/-- The framer's answer on a command, check by check. -/
theorem frameResponse_eq_firstThat (p : Params) (t : Tier) (c : Bool) (cmd : HostCmd) (v : Int) :
    frameResponse p t c cmd v =
      firstThat (.ok (encodeFrame cmd v))
        [(!c, .refused .unconfigured),
         (!tierVisible (hostRow cmd).tiers t, mismatch .hostCommand ⟨(hostRow cmd).name, none⟩ t (hostRow cmd).tiers),
         (!p.gkTableEnabled, .refused .notInSource),
         (p.strictRange && (decide (v < 0) || decide (255 < v)),
           .err (.operandRange (hostRow cmd).name "param" v))] := by
  have hrange : ¬ (0 ≤ v ∧ v < 256) ↔ v < 0 ∨ 255 < v := by omega
  simp only [frameResponse, hrange, firstThat]
  exact if_congr (by simp) rfl (if_congr (by simp) rfl (if_congr (by simp) rfl (if_congr (by simp) rfl rfl)))

/-- A lookup of a known name, check by check. -/
theorem mapAnswer_eq_firstThat (p : Params) (t : Tier) (c : Bool) {name : String} {e : MapEntry}
    (he : mapEntryNamed name = some e) :
    mapAnswer p t c name =
      firstThat (.ok e.value)
        [(!c, .refused .unconfigured),
         (!p.gkTableEnabled && e.src == .gk, .refused .notInSource),
         (!tierVisible e.tiers t, mismatch (mismatchKind e.kind) ⟨name, none⟩ t e.tiers)] := by
  simp only [mapAnswer, he, firstThat]
  exact if_congr (by simp) rfl (if_congr (by simp) rfl (if_congr (by simp) rfl rfl))

/-- The classification of an integer address, check by check. -/
theorem regionAnswer_eq_firstThat (p : Params) (c : Bool) (a : Int) :
    regionAnswer p c (.int a) =
      firstThat (.ok (.region (regionOf p a.toNat)))
        [(!c, .refused .unconfigured), (decide (a < 0) || decide (2 ^ 24 ≤ a), .refused .addrRange)] := by
  simp only [regionAnswer, Operand.int?, firstThat]
  exact if_congr (by simp) rfl (if_congr (by simp) rfl rfl)

/-- Settles O39: the checks that stand before a row, command or name is known are those of the port's own answer; the
rest is the priority list of that row, command or name. -/
theorem checksReportTheFirstInPriorityOrder : Obligations.ChecksReportTheFirstInPriorityOrder := by
  refine fun s => ⟨fun m v args => congrArg some ?_, fun cmd param => congrArg some ?_, fun name => congrArg some ?_,
    fun addr => congrArg some ?_⟩
  · cases s.configured with
    | false => rfl
    | true =>
      cases hargs : intArgs args with
      | none =>
        have hnon : hasNonInteger (.enc m v args) = true := (hasNonInteger_enc_iff m v args).mpr hargs
        simp only [encAnswer, hargs, hnon, Bool.true_eq_false, if_false, if_true]
      | some vs =>
        have hint : ¬ hasNonInteger (.enc m v args) = true := by simp [hasNonInteger_enc_iff, hargs]
        rw [encAnswer, if_neg (by decide), if_neg (by decide), if_neg hint, hargs]
        cases hop : dlOpNamed s.params m v with
        | none => rfl
        | some op =>
          obtain ⟨hmnemonic, hvariant⟩ := opsel_of_dlOpNamed hop
          obtain rfl := eq_map_int_of_intArgs hargs
          dsimp only
          rw [wordResponse_eq_firstThat, hmnemonic, hvariant, filterMap_int?_map_int, List.length_map, mismatch]
  · rw [hostAnswer]
    cases (hostParam param).int? with
    | none => rfl
    | some v =>
      cases hcmd : hostCmdNamed cmd with
      | none => rfl
      | some c =>
        dsimp only
        rw [← hostRow_of_hostCmdNamed hcmd, frameResponse_eq_firstThat]
        cases s.configured <;> rfl
  · cases he : mapEntryNamed name with
    | none => rw [mapAnswer, he]
    | some e =>
      rw [mapAnswer_eq_firstThat _ _ _ he, mismatch, mismatchKind_eq_ite]
  · cases addr with
    | nonInteger text => rfl
    | int a => exact regionAnswer_eq_firstThat s.params s.configured a

end Sys2Proof.Machine
end

section
/-! The reset event and the writes of TIER: what they refuse, what they leave, and the two cases of a legal tier
(70_reset_and_hazards.md R330). -/

namespace Sys2Proof.Machine

open Sys2Proof.Safety

theorem normTier_of_two_le {v : Int} (h : 2 ≤ v) :
    normTier v = some (if v = 2 then .t2 else if v = 3 then .t3 else .t4) := by
  unfold normTier
  split_ifs
  · rfl
  · rfl
  · rfl
  · omega

/-- A block that is not configured takes a legal tier, and a configured one takes its own. -/
theorem State.rst_of_accepted {s : State} {v : Int} {t : Tier} (hv : normTier v = some t)
    (hown : s.configured = true → t = s.tier) : s.rst (.int v) = (s.configure t).driveCfg (.ok ()) := by
  have haccepted : ¬ (s.configured = true ∧ t ≠ s.tier) := fun ⟨hc, hne⟩ => hne (hown hc)
  simp only [State.rst, Operand.int?, hv, if_neg haccepted]

/-- A served request drives no port but its own (60_exceptions.md R305). -/
theorem otherPortsKept_serve (s : State) (r : Request) : OtherPortsKept s (s.serve r) r := by
  cases r with
  | rst o => exact s.rst_otherPorts o
  | _ => exact ⟨rfl, rfl, rfl⟩

end Sys2Proof.Machine
end

section
/-! O40: the reason of a refusal, port by port (60_exceptions.md R303). -/

namespace Sys2Proof.Machine

open Sys2Proof.Safety

section Refusals

variable {s : State} {reason : RefusalReason}

theorem mayRefuse_of_encAnswer {m : String} {v : Option Variant} {args : List Operand}
    (h : encAnswer s.params s.tier s.configured m v args = .refused reason) :
    MayRefuse s (.enc m v args) reason := by
  rcases encAnswer_cases s.params s.tier s.configured m v args with ⟨hc, hanswer⟩ | ⟨_, hargs, hanswer⟩ |
    ⟨_, hop, hanswer⟩ | ⟨vs, op, _, hargs, hop, hanswer⟩ <;> rw [hanswer] at h
  · cases h
    exact ⟨hc, nofun⟩
  · cases h
    exact (hasNonInteger_enc_iff m v args).mpr hargs
  · cases h
    exact ⟨m, v, args, rfl, hop⟩
  · rcases wordResponse_cases s.params s.tier s.configured op vs with ⟨hc, hrow⟩ | ⟨_, hgk, hsrc, hrow⟩ |
      ⟨_, _, _, hrow⟩ | ⟨_, _, _, hlen, hrow⟩ | ⟨_, _, _, _, _, _, _, _, hrow⟩ | ⟨_, _, _, _, _, hrow⟩ <;>
      cases hrow.symm.trans h
    · exact ⟨hc, nofun⟩
    · exact ⟨hgk, .inl ⟨m, v, args, op, rfl, hop, hsrc⟩⟩
    · rw [← List.length_map (f := Operand.int), ← eq_map_int_of_intArgs hargs] at hlen
      exact ⟨m, v, args, op, rfl, hop, hlen⟩

theorem mayRefuse_of_hostAnswer {cmd : String} {param : Option Operand}
    (h : hostAnswer s.params s.tier s.configured cmd param = .refused reason) :
    MayRefuse s (.host cmd param) reason := by
  rcases hostAnswer_cases s.params s.tier s.configured cmd param with ⟨hc, hanswer⟩ | ⟨_, hparam, hanswer⟩ |
    ⟨_, hcmd, hanswer⟩ | ⟨v, c, _, _, _, hanswer⟩ <;> rw [hanswer] at h
  · cases h
    exact ⟨hc, nofun⟩
  · cases h
    exact Option.isNone_iff_eq_none.mpr hparam
  · cases h
    exact ⟨cmd, param, rfl, hcmd⟩
  · rcases frameResponse_cases s.params s.tier s.configured c v with ⟨hc, hrow⟩ | ⟨_, _, hrow⟩ | ⟨_, _, hgk, hrow⟩ |
      ⟨_, _, _, _, _, hrow⟩ | ⟨_, _, _, _, hrow⟩ <;> cases hrow.symm.trans h
    · exact ⟨hc, nofun⟩
    · exact ⟨hgk, .inr (.inl ⟨cmd, param, rfl⟩)⟩

theorem mayRefuse_of_mapAnswer {name : String} (h : mapAnswer s.params s.tier s.configured name = .refused reason) :
    MayRefuse s (.map name) reason := by
  rcases mapAnswer_cases s.params s.tier s.configured name with ⟨hc, hanswer⟩ | ⟨_, he, hanswer⟩ |
    ⟨e, _, he, hgk, hsrc, hanswer⟩ | ⟨_, _, _, _, _, hanswer⟩ | ⟨_, _, _, _, _, hanswer⟩ <;> cases hanswer.symm.trans h
  · exact ⟨hc, nofun⟩
  · exact ⟨name, rfl, he⟩
  · exact ⟨hgk, .inr (.inr ⟨name, e, rfl, he, hsrc⟩)⟩

theorem mayRefuse_of_regionAnswer {addr : Operand} (h : regionAnswer s.params s.configured addr = .refused reason) :
    MayRefuse s (.region addr) reason := by
  rcases regionAnswer_cases s.params s.configured addr with ⟨hc, hanswer⟩ | ⟨_, haddr, hanswer⟩ |
    ⟨a, _, haddr, hout, hanswer⟩ | ⟨_, _, _, _, hanswer⟩ <;> cases hanswer.symm.trans h
  · exact ⟨hc, nofun⟩
  · exact Option.isNone_iff_eq_none.mpr haddr
  · rw [Operand.eq_int_of_int?_eq_some haddr]
    exact ⟨a, rfl, hout⟩

theorem mayRefuse_of_rst {o : Operand} (h : (s.rst o).cfgOut = some (.refused reason)) :
    MayRefuse s (.rst o) reason := by
  rcases s.rst_cases o with ⟨ho, hrst⟩ | ⟨v, t, ho, hv, hc, hne, hrst⟩ | ⟨_, _, _, _, _, hrst⟩ | ⟨v, ho, hv, hc, hrst⟩ |
    ⟨v, ho, hv, hc, hrst⟩ <;> rw [hrst, State.driveCfg_cfgOut] at h <;> cases h
  · exact Option.isNone_iff_eq_none.mpr ho
  · rw [Operand.eq_int_of_int?_eq_some ho]
    exact ⟨hc, .inl ⟨v, rfl, by simpa [hv] using hne⟩⟩
  · rw [Operand.eq_int_of_int?_eq_some ho]
    exact ⟨hc, .inl ⟨v, rfl, by simp [hv]⟩⟩
  · rw [Operand.eq_int_of_int?_eq_some ho]
    exact ⟨hc, v, (normTier_eq_none_iff v).mp hv, rfl⟩

theorem mayRefuse_of_writeTierAnswer {o : Operand} (h : writeTierAnswer s.configured o = .refused reason) :
    MayRefuse s (.writeTier o) reason := by
  unfold writeTierAnswer at h
  split at h
  · next hc =>
    cases h
    exact ⟨hc, nofun⟩
  · next hc =>
    split at h
    · next ho =>
      cases h
      exact Option.isNone_iff_eq_none.mpr ho
    · cases h
      exact ⟨Bool.not_eq_false _ ▸ hc, .inr ⟨o, rfl⟩⟩

theorem eq_refused_of_refusalOf {α : Type} {r : Response α} (h : refusalOf (some r) = some reason) :
    r = .refused reason := by
  cases r with
  | ok v => cases h
  | err e => cases h
  | refused r => exact congrArg Response.refused (Option.some.inj h)

/-- A served request is refused only for a reason whose condition it meets. -/
theorem mayRefuse_of_serve {r : Request} (h : (responseTo (s.serve r) r).refusal = some reason) :
    MayRefuse s r reason := by
  cases r with
  | enc m v args => exact mayRefuse_of_encAnswer (eq_refused_of_refusalOf h)
  | host cmd param => exact mayRefuse_of_hostAnswer (eq_refused_of_refusalOf h)
  | map name => exact mayRefuse_of_mapAnswer (eq_refused_of_refusalOf h)
  | region addr => exact mayRefuse_of_regionAnswer (eq_refused_of_refusalOf h)
  | rst o =>
    have hanswer : refusalOf (s.rst o).cfgOut = some reason := h
    rw [s.rst_cfgOut o] at hanswer
    exact mayRefuse_of_rst ((s.rst_cfgOut o).trans (congrArg some (eq_refused_of_refusalOf hanswer)))
  | writeTier o => exact mayRefuse_of_writeTierAnswer (eq_refused_of_refusalOf h)

end Refusals

/-- Settles O40: the step serves the request on a state that differs in its queue alone, which no condition reads. -/
theorem refusalsAreThoseOfTheContract : Obligations.RefusalsAreThoseOfTheContract := by
  intro s t r rest reason hq hstep hrefusal
  obtain rfl := eq_serve_of_step hq hstep
  exact mayRefuse_of_serve (s := { s with requests := rest }) hrefusal

end Sys2Proof.Machine
end

section
/-! O41: what a rejected request leaves behind (60_exceptions.md R305). -/

namespace Sys2Proof.Machine

open Sys2Proof.Safety

/-- A rejected request keeps CONFIGURED, and TIER but for the illegal tier on a block that is not configured
(10_state.md R25). -/
theorem serve_keeps_of_rejected {s : State} {r : Request} (h : (responseTo (s.serve r) r).rejected = true) :
    (s.serve r).configured = s.configured ∧
      ((s.serve r).tier = s.tier ∨ (s.configured = false ∧ ∃ v : Int, v < 2 ∧ r = .rst (.int v))) := by
  cases r with
  | rst o =>
    change isRejection (s.rst o).cfgOut = true at h
    change (s.rst o).configured = s.configured ∧ ((s.rst o).tier = s.tier ∨ _)
    rcases s.rst_cases o with ⟨_, hrst⟩ | ⟨_, _, _, _, _, _, hrst⟩ | ⟨_, _, _, _, _, hrst⟩ | ⟨_, _, _, _, hrst⟩ |
      ⟨v, ho, hv, hc, hrst⟩ <;> rw [hrst] at h ⊢
    · exact ⟨rfl, .inl rfl⟩
    · exact ⟨rfl, .inl rfl⟩
    · cases h
    · exact ⟨rfl, .inl rfl⟩
    · rw [Operand.eq_int_of_int?_eq_some ho]
      exact ⟨hc.symm, .inr ⟨hc, v, (normTier_eq_none_iff v).mp hv, rfl⟩⟩
  | _ => exact ⟨rfl, .inl rfl⟩

/-- Nothing reads TIER on a block that is not configured (70_reset_and_hazards.md R331). -/
theorem portAnswer_of_unconfigured (p : Params) (t u : Tier) (r : Request) :
    portAnswer p t false r = portAnswer p u false r := by
  cases r with
  | rst o => simp only [portAnswer, rstAnswer, Bool.false_eq_true, false_and, if_false]
  | _ => rfl

/-- Two states answer a request alike if they agree on what the ports read: the parameters, CONFIGURED and, on a
configured block, TIER. -/
theorem responseTo_serve_congr {s t : State} (hparams : t.params = s.params) (hconf : t.configured = s.configured)
    (htier : t.tier = s.tier ∨ s.configured = false) (r : Request) :
    responseTo (t.serve r) r = responseTo (s.serve r) r := by
  rw [responseTo_serve, responseTo_serve, hparams, hconf]
  rcases htier with htier | hc
  · rw [htier]
  · rw [hc]
    exact portAnswer_of_unconfigured s.params t.tier s.tier r

theorem not_ok_of_rejected {r : PortResponse} (h : r.rejected = true) :
    (∀ w, r ≠ .enc (some (.ok w))) ∧ (∀ f, r ≠ .host (some (.ok f))) ∧ ∀ v, r ≠ .map (some (.ok v)) := by
  refine ⟨?_, ?_, ?_⟩ <;> rintro _ rfl <;> cases h

/-- Settles O41: a rejected request keeps all that a port reads (`serve_keeps_of_rejected`), so a later one is answered
alike (`responseTo_serve_congr`). -/
theorem errorOrRefusalLeavesNoTrace : Obligations.ErrorOrRefusalLeavesNoTrace := by
  intro s t r rest hq hstep hrejected
  obtain rfl := eq_serve_of_step hq hstep
  obtain ⟨hparams, hrequests⟩ := State.serve_frame { s with requests := rest } r
  obtain ⟨hconf, htier⟩ := serve_keeps_of_rejected hrejected
  obtain ⟨hword, hframe, hvalue⟩ := not_ok_of_rejected hrejected
  exact ⟨htier, hconf, hparams, hrequests, otherPortsKept_serve { s with requests := rest } r, hword, hframe, hvalue,
    responseTo_serve_congr hparams hconf (htier.imp_right And.left)⟩

end Sys2Proof.Machine
end

section
/-! O20, O21, O23, O25: power-on, the block before configuration, the reset event and the other writes of TIER
(70_reset_and_hazards.md R330 to R332, 60_exceptions.md R303). -/

namespace Sys2Proof.Machine

open Sys2Proof.Safety

/-- Settles O23: the answer to a write of an integer depends on CONFIGURED alone. -/
theorem otherWritesOfTierAreRefused : Obligations.OtherWritesOfTierAreRefused := by
  intro s rest v
  rw [step_cons, State.serve, State.driveCfg, writeTierAnswer]
  cases s.configured <;> rfl

/-- Settles O20: each port asks CONFIGURED first; the reset event refuses a tier below 2 (`State.rst_of_illegal`) and
takes one from 2 up (`serve_rst_configured`). -/
theorem unconfiguredBlockRefusesEveryRequest : Obligations.UnconfiguredBlockRefusesEveryRequest := by
  refine ⟨rfl, fun s rest hc => ⟨fun m v args => ?_, fun cmd param => ?_, fun name => ?_, fun addr => ?_,
    fun v hv => ⟨_, step_cons s _ rest, ?_⟩, fun v hv => ⟨_, step_cons s _ rest, ?_⟩⟩⟩
  · rw [step_cons, State.serve, State.driveEnc, encAnswer, if_pos hc]
  · rw [step_cons, State.serve, State.driveHost, hostAnswer, if_pos hc]
  · rw [step_cons, State.serve, State.driveMap, mapAnswer, if_pos hc]
  · rw [step_cons, State.serve, State.driveMap, regionAnswer, if_pos hc]
  · rw [State.serve, State.rst_of_illegal (s := { s with requests := rest }) hc hv, State.driveCfg_configured,
      State.unconfigure_configured]
  · exact serve_rst_configured (s := { s with requests := rest }) hc hv

/-- TIER, CONFIGURED and the refusal after a reset event, in the cases of R330. -/
theorem State.rst_outcome (s : State) (v : Int) :
    if s.configured = true ∧ normTier v ≠ some s.tier then
      (s.rst (.int v)).cfgOut = some (.refused .tierChange) ∧ (s.rst (.int v)).tier = s.tier ∧
        (s.rst (.int v)).configured = true
    else if v < 2 then (s.rst (.int v)).configured = false
    else (s.rst (.int v)).configured = true ∧
      (s.rst (.int v)).tier = (if v = 2 then .t2 else if v = 3 then .t3 else .t4) := by
  by_cases hother : s.configured = true ∧ normTier v ≠ some s.tier
  · obtain ⟨hc, hne⟩ := hother
    rw [if_pos ⟨hc, hne⟩, State.rst_of_other_tier hc hne]
    exact ⟨rfl, rfl, hc⟩
  rw [if_neg hother]
  by_cases hlow : v < 2
  · have hillegal : normTier v ≠ some s.tier := by simp [(normTier_eq_none_iff v).mpr hlow]
    have hc : s.configured = false := Bool.eq_false_iff.mpr fun hc => hother ⟨hc, hillegal⟩
    rw [if_pos hlow, State.rst_of_illegal hc hlow]
    rfl
  · have hv := normTier_of_two_le (not_lt.mp hlow)
    have hown (hc : s.configured = true) : normTier v = some s.tier := not_not.mp fun hne => hother ⟨hc, hne⟩
    rw [if_neg hlow, State.rst_of_accepted hv fun hc => Option.some.inj (hv.symm.trans (hown hc))]
    exact ⟨rfl, rfl⟩

/-- Settles O21: the cases of R330 are `State.rst_outcome`, the rest is what every served request keeps. -/
theorem resetEventConfiguresOrIsRefused : Obligations.ResetEventConfiguresOrIsRefused := by
  intro s rest v
  obtain ⟨hparams, hrequests⟩ := State.serve_frame { s with requests := rest } (.rst (.int v))
  obtain ⟨henc, hhost, hmap⟩ := State.rst_otherPorts { s with requests := rest } (.int v)
  have houtcome := State.rst_outcome { s with requests := rest } v
  refine ⟨_, step_cons s _ rest, hparams, hrequests, henc, hhost, hmap, houtcome, fun hc _ => ?_⟩
  obtain ⟨htier, hconf⟩ := State.serve_configured { s with requests := rest } (.rst (.int v)) hc
  exact ⟨htier, hconf.trans hc.symm⟩

/-- Settles O25: no port holds a response at power-on. -/
theorem powerOnPortsAreSound : Obligations.PowerOnPortsAreSound :=
  ⟨nofun, nofun, nofun, nofun, nofun, nofun, nofun⟩

end Sys2Proof.Machine
end
